-- ==== Sys2Proof/Word.lean ====
section
/-! DEFINITION. The two widths of the block (R3): XLEN = 8 for every data value, ALEN = 16 for every bus address. -/

namespace Sys2Proof

/-- A data value or an 8-bit register. -/
abbrev Byte := BitVec 8

/-- A bus address or the program counter. -/
abbrev Word := BitVec 16

end Sys2Proof
end

