-- ==== Sys2Proof/Config.lean ====
section
/-! DEFINITION. The parameters of R3 at the values the spec gives them (log 2, 7, 8). The OPEN creation values
(INIT_A, INIT_RAM and the rest) are no constants: they are the arguments of `Machine.State.create`. -/

namespace Sys2Proof

/-- `ISA_PROFILE` (R4): which opcode bytes have a routine. -/
inductive Profile where
  | minimum
  | full
deriving DecidableEq, Repr

/-- The profile `step` runs: the spec's default. DESIGN CHOICE, log 7; `Machine.stepIn` takes either. -/
def Config.isaProfile : Profile := .full

/-- `STACK_PAGE` (R3, R16). Log 8. -/
def Config.stackPage : Byte := 0x01#8

/-- `LOAD_ADDR` (R3, R261). Log 8. -/
def Config.loadAddr : Word := 0x8000#16

/-- `RESET_VECTOR` (R3, R70). -/
def Config.resetVector : Word := 0xFFFC#16

/-- `RAM_SIZE` (R3, R21). -/
def Config.ramSize : Nat := 2048

/-- `PPU_NREGS` (R3, R22). -/
def Config.ppuNregs : Nat := 8

/-- `ROM_SIZE` (R3, R23). -/
def Config.romSize : Nat := 32768

/-- `ROM_BASE` (R3, R45). -/
def Config.romBase : Nat := 0x8000

/-- `LATCH_MASK` (R3, R57). -/
def Config.latchMask : Word := 0x3FFF#16

/-- `CTRL_RECOGNIZED_MASK` (R3, R60). Log 8. -/
def Config.ctrlRecognizedMask : Byte := 0xFF#8

/-- `CTRL_INC_BIT` (R3, R61). Log 8. -/
def Config.ctrlIncBit : Nat := 2

/-- `PPU_REG_CTRL` (R3, R62). Log 8. -/
def Config.ppuRegCtrl : Nat := 0

/-- `PPU_REG_ADDR` (R3, R62). Log 8. -/
def Config.ppuRegAddr : Nat := 6

/-- `PPU_REG_DATA` (R3, R62): a shadow byte only (R63). Log 8. -/
def Config.ppuRegData : Nat := 7

/-- What a byte of an array reads as when the array lists no entry for it: for `rom` the spec's creation value
(R23), for `ppu_reg` the spec's default (R3), for `ram` a DESIGN CHOICE (INIT_RAM is OPEN, log 2). -/
def Config.unlistedByte : Byte := 0x00#8

end Sys2Proof
end

