-- ==== Sys2Proof/Syntax.lean ====
section
/-! DEFINITION. The instructions as syntax: mnemonics, formats, addressing modes, and one constructor per row of
spec/opcode_table.json (R84, R86). -/

namespace Sys2Proof

/-- The 56 mnemonics (R86), in the order of the instruction files 41 to 46. -/
inductive Mnemonic where
  | LDA | STA | LDX | LDY | STX | STY | TAX | INX | TAY | TXA | TYA | TSX
  | TXS | INY | DEX | DEY | INC | DEC | ADC | SBC | AND | ORA | EOR | CMP
  | CPX | CPY | BIT | ASL | LSR | ROL | ROR | BCC | BCS | BEQ | BMI | BNE
  | BPL | BVC | BVS | JMP | JSR | RTS | RTI | PHA | PHP | PLA | PLP | CLC
  | CLD | CLI | CLV | SEC | SED | SEI | NOP | BRK
deriving DecidableEq, Repr

/-- The 13 instruction formats (R81). -/
inductive Format where
  | IMP | ACC | IMM | ZP | ZPX | ZPY | IZX | IZY | REL | ABS | ABX | ABY | IND
deriving DecidableEq, Repr

/-- The resolver's closed enumeration of addressing modes (R104). -/
inductive AddressingMode where
  | immediate | zeroPage | zeroPageX | zeroPageY | absolute | absoluteX | absoluteY | indirectX | indirectY
  | noneAddressing
deriving DecidableEq, Repr

/-- An instruction with its operand field (R81, R83): `imm8`, `zp8` and `rel8` are the byte after the opcode,
`addr16` the little-endian word after it. The constructor is the mnemonic followed by the format. -/
inductive Instr where
  /-- `LDA #$nn`, 0xA9 (R130). -/
  | ldaImm (imm8 : Byte)
  /-- `LDA $nn`, 0xA5 (R130). -/
  | ldaZp (zp8 : Byte)
  /-- `LDA $nn,X`, 0xB5 (R130). -/
  | ldaZpx (zp8 : Byte)
  /-- `LDA $nnnn`, 0xAD (R130). -/
  | ldaAbs (addr16 : Word)
  /-- `LDA $nnnn,X`, 0xBD (R130). -/
  | ldaAbx (addr16 : Word)
  /-- `LDA $nnnn,Y`, 0xB9 (R130). -/
  | ldaAby (addr16 : Word)
  /-- `LDA ($nn,X)`, 0xA1 (R130). -/
  | ldaIzx (zp8 : Byte)
  /-- `LDA ($nn),Y`, 0xB1 (R130). -/
  | ldaIzy (zp8 : Byte)
  /-- `STA $nn`, 0x85 (R131). -/
  | staZp (zp8 : Byte)
  /-- `STA $nn,X`, 0x95 (R131). -/
  | staZpx (zp8 : Byte)
  /-- `STA $nnnn`, 0x8D (R131). -/
  | staAbs (addr16 : Word)
  /-- `STA $nnnn,X`, 0x9D (R131). -/
  | staAbx (addr16 : Word)
  /-- `STA $nnnn,Y`, 0x99 (R131). -/
  | staAby (addr16 : Word)
  /-- `STA ($nn,X)`, 0x81 (R131). -/
  | staIzx (zp8 : Byte)
  /-- `STA ($nn),Y`, 0x91 (R131). -/
  | staIzy (zp8 : Byte)
  /-- `LDX #$nn`, 0xA2 (R132). -/
  | ldxImm (imm8 : Byte)
  /-- `LDX $nn`, 0xA6 (R132). -/
  | ldxZp (zp8 : Byte)
  /-- `LDX $nn,Y`, 0xB6 (R132). -/
  | ldxZpy (zp8 : Byte)
  /-- `LDX $nnnn`, 0xAE (R132). -/
  | ldxAbs (addr16 : Word)
  /-- `LDX $nnnn,Y`, 0xBE (R132). -/
  | ldxAby (addr16 : Word)
  /-- `LDY #$nn`, 0xA0 (R133). -/
  | ldyImm (imm8 : Byte)
  /-- `LDY $nn`, 0xA4 (R133). -/
  | ldyZp (zp8 : Byte)
  /-- `LDY $nn,X`, 0xB4 (R133). -/
  | ldyZpx (zp8 : Byte)
  /-- `LDY $nnnn`, 0xAC (R133). -/
  | ldyAbs (addr16 : Word)
  /-- `LDY $nnnn,X`, 0xBC (R133). -/
  | ldyAbx (addr16 : Word)
  /-- `STX $nn`, 0x86 (R134). -/
  | stxZp (zp8 : Byte)
  /-- `STX $nn,Y`, 0x96 (R134). -/
  | stxZpy (zp8 : Byte)
  /-- `STX $nnnn`, 0x8E (R134). -/
  | stxAbs (addr16 : Word)
  /-- `STY $nn`, 0x84 (R135). -/
  | styZp (zp8 : Byte)
  /-- `STY $nn,X`, 0x94 (R135). -/
  | styZpx (zp8 : Byte)
  /-- `STY $nnnn`, 0x8C (R135). -/
  | styAbs (addr16 : Word)
  /-- `TAX`, 0xAA (R140). -/
  | tax
  /-- `INX`, 0xE8 (R141). -/
  | inx
  /-- `TAY`, 0xA8 (R142). -/
  | tay
  /-- `TXA`, 0x8A (R143). -/
  | txa
  /-- `TYA`, 0x98 (R144). -/
  | tya
  /-- `TSX`, 0xBA (R145). -/
  | tsx
  /-- `TXS`, 0x9A (R146). -/
  | txs
  /-- `INY`, 0xC8 (R147). -/
  | iny
  /-- `DEX`, 0xCA (R148). -/
  | dex
  /-- `DEY`, 0x88 (R149). -/
  | dey
  /-- `INC $nn`, 0xE6 (R150). -/
  | incZp (zp8 : Byte)
  /-- `INC $nn,X`, 0xF6 (R150). -/
  | incZpx (zp8 : Byte)
  /-- `INC $nnnn`, 0xEE (R150). -/
  | incAbs (addr16 : Word)
  /-- `INC $nnnn,X`, 0xFE (R150). -/
  | incAbx (addr16 : Word)
  /-- `DEC $nn`, 0xC6 (R151). -/
  | decZp (zp8 : Byte)
  /-- `DEC $nn,X`, 0xD6 (R151). -/
  | decZpx (zp8 : Byte)
  /-- `DEC $nnnn`, 0xCE (R151). -/
  | decAbs (addr16 : Word)
  /-- `DEC $nnnn,X`, 0xDE (R151). -/
  | decAbx (addr16 : Word)
  /-- `ADC #$nn`, 0x69 (R160). -/
  | adcImm (imm8 : Byte)
  /-- `ADC $nn`, 0x65 (R160). -/
  | adcZp (zp8 : Byte)
  /-- `ADC $nn,X`, 0x75 (R160). -/
  | adcZpx (zp8 : Byte)
  /-- `ADC $nnnn`, 0x6D (R160). -/
  | adcAbs (addr16 : Word)
  /-- `ADC $nnnn,X`, 0x7D (R160). -/
  | adcAbx (addr16 : Word)
  /-- `ADC $nnnn,Y`, 0x79 (R160). -/
  | adcAby (addr16 : Word)
  /-- `ADC ($nn,X)`, 0x61 (R160). -/
  | adcIzx (zp8 : Byte)
  /-- `ADC ($nn),Y`, 0x71 (R160). -/
  | adcIzy (zp8 : Byte)
  /-- `SBC #$nn`, 0xE9 (R161). -/
  | sbcImm (imm8 : Byte)
  /-- `SBC $nn`, 0xE5 (R161). -/
  | sbcZp (zp8 : Byte)
  /-- `SBC $nn,X`, 0xF5 (R161). -/
  | sbcZpx (zp8 : Byte)
  /-- `SBC $nnnn`, 0xED (R161). -/
  | sbcAbs (addr16 : Word)
  /-- `SBC $nnnn,X`, 0xFD (R161). -/
  | sbcAbx (addr16 : Word)
  /-- `SBC $nnnn,Y`, 0xF9 (R161). -/
  | sbcAby (addr16 : Word)
  /-- `SBC ($nn,X)`, 0xE1 (R161). -/
  | sbcIzx (zp8 : Byte)
  /-- `SBC ($nn),Y`, 0xF1 (R161). -/
  | sbcIzy (zp8 : Byte)
  /-- `AND #$nn`, 0x29 (R162). -/
  | andImm (imm8 : Byte)
  /-- `AND $nn`, 0x25 (R162). -/
  | andZp (zp8 : Byte)
  /-- `AND $nn,X`, 0x35 (R162). -/
  | andZpx (zp8 : Byte)
  /-- `AND $nnnn`, 0x2D (R162). -/
  | andAbs (addr16 : Word)
  /-- `AND $nnnn,X`, 0x3D (R162). -/
  | andAbx (addr16 : Word)
  /-- `AND $nnnn,Y`, 0x39 (R162). -/
  | andAby (addr16 : Word)
  /-- `AND ($nn,X)`, 0x21 (R162). -/
  | andIzx (zp8 : Byte)
  /-- `AND ($nn),Y`, 0x31 (R162). -/
  | andIzy (zp8 : Byte)
  /-- `ORA #$nn`, 0x09 (R163). -/
  | oraImm (imm8 : Byte)
  /-- `ORA $nn`, 0x05 (R163). -/
  | oraZp (zp8 : Byte)
  /-- `ORA $nn,X`, 0x15 (R163). -/
  | oraZpx (zp8 : Byte)
  /-- `ORA $nnnn`, 0x0D (R163). -/
  | oraAbs (addr16 : Word)
  /-- `ORA $nnnn,X`, 0x1D (R163). -/
  | oraAbx (addr16 : Word)
  /-- `ORA $nnnn,Y`, 0x19 (R163). -/
  | oraAby (addr16 : Word)
  /-- `ORA ($nn,X)`, 0x01 (R163). -/
  | oraIzx (zp8 : Byte)
  /-- `ORA ($nn),Y`, 0x11 (R163). -/
  | oraIzy (zp8 : Byte)
  /-- `EOR #$nn`, 0x49 (R164). -/
  | eorImm (imm8 : Byte)
  /-- `EOR $nn`, 0x45 (R164). -/
  | eorZp (zp8 : Byte)
  /-- `EOR $nn,X`, 0x55 (R164). -/
  | eorZpx (zp8 : Byte)
  /-- `EOR $nnnn`, 0x4D (R164). -/
  | eorAbs (addr16 : Word)
  /-- `EOR $nnnn,X`, 0x5D (R164). -/
  | eorAbx (addr16 : Word)
  /-- `EOR $nnnn,Y`, 0x59 (R164). -/
  | eorAby (addr16 : Word)
  /-- `EOR ($nn,X)`, 0x41 (R164). -/
  | eorIzx (zp8 : Byte)
  /-- `EOR ($nn),Y`, 0x51 (R164). -/
  | eorIzy (zp8 : Byte)
  /-- `CMP #$nn`, 0xC9 (R165). -/
  | cmpImm (imm8 : Byte)
  /-- `CMP $nn`, 0xC5 (R165). -/
  | cmpZp (zp8 : Byte)
  /-- `CMP $nn,X`, 0xD5 (R165). -/
  | cmpZpx (zp8 : Byte)
  /-- `CMP $nnnn`, 0xCD (R165). -/
  | cmpAbs (addr16 : Word)
  /-- `CMP $nnnn,X`, 0xDD (R165). -/
  | cmpAbx (addr16 : Word)
  /-- `CMP $nnnn,Y`, 0xD9 (R165). -/
  | cmpAby (addr16 : Word)
  /-- `CMP ($nn,X)`, 0xC1 (R165). -/
  | cmpIzx (zp8 : Byte)
  /-- `CMP ($nn),Y`, 0xD1 (R165). -/
  | cmpIzy (zp8 : Byte)
  /-- `CPX #$nn`, 0xE0 (R166). -/
  | cpxImm (imm8 : Byte)
  /-- `CPX $nn`, 0xE4 (R166). -/
  | cpxZp (zp8 : Byte)
  /-- `CPX $nnnn`, 0xEC (R166). -/
  | cpxAbs (addr16 : Word)
  /-- `CPY #$nn`, 0xC0 (R167). -/
  | cpyImm (imm8 : Byte)
  /-- `CPY $nn`, 0xC4 (R167). -/
  | cpyZp (zp8 : Byte)
  /-- `CPY $nnnn`, 0xCC (R167). -/
  | cpyAbs (addr16 : Word)
  /-- `BIT $nn`, 0x24 (R168). -/
  | bitZp (zp8 : Byte)
  /-- `BIT $nnnn`, 0x2C (R168). -/
  | bitAbs (addr16 : Word)
  /-- `ASL A`, 0x0A (R180). -/
  | aslAcc
  /-- `ASL $nn`, 0x06 (R180). -/
  | aslZp (zp8 : Byte)
  /-- `ASL $nn,X`, 0x16 (R180). -/
  | aslZpx (zp8 : Byte)
  /-- `ASL $nnnn`, 0x0E (R180). -/
  | aslAbs (addr16 : Word)
  /-- `ASL $nnnn,X`, 0x1E (R180). -/
  | aslAbx (addr16 : Word)
  /-- `LSR A`, 0x4A (R181). -/
  | lsrAcc
  /-- `LSR $nn`, 0x46 (R181). -/
  | lsrZp (zp8 : Byte)
  /-- `LSR $nn,X`, 0x56 (R181). -/
  | lsrZpx (zp8 : Byte)
  /-- `LSR $nnnn`, 0x4E (R181). -/
  | lsrAbs (addr16 : Word)
  /-- `LSR $nnnn,X`, 0x5E (R181). -/
  | lsrAbx (addr16 : Word)
  /-- `ROL A`, 0x2A (R182). -/
  | rolAcc
  /-- `ROL $nn`, 0x26 (R182). -/
  | rolZp (zp8 : Byte)
  /-- `ROL $nn,X`, 0x36 (R182). -/
  | rolZpx (zp8 : Byte)
  /-- `ROL $nnnn`, 0x2E (R182). -/
  | rolAbs (addr16 : Word)
  /-- `ROL $nnnn,X`, 0x3E (R182). -/
  | rolAbx (addr16 : Word)
  /-- `ROR A`, 0x6A (R183). -/
  | rorAcc
  /-- `ROR $nn`, 0x66 (R183). -/
  | rorZp (zp8 : Byte)
  /-- `ROR $nn,X`, 0x76 (R183). -/
  | rorZpx (zp8 : Byte)
  /-- `ROR $nnnn`, 0x6E (R183). -/
  | rorAbs (addr16 : Word)
  /-- `ROR $nnnn,X`, 0x7E (R183). -/
  | rorAbx (addr16 : Word)
  /-- `BCC $nnnn`, 0x90 (R191). -/
  | bccRel (rel8 : Byte)
  /-- `BCS $nnnn`, 0xB0 (R192). -/
  | bcsRel (rel8 : Byte)
  /-- `BEQ $nnnn`, 0xF0 (R193). -/
  | beqRel (rel8 : Byte)
  /-- `BMI $nnnn`, 0x30 (R194). -/
  | bmiRel (rel8 : Byte)
  /-- `BNE $nnnn`, 0xD0 (R195). -/
  | bneRel (rel8 : Byte)
  /-- `BPL $nnnn`, 0x10 (R196). -/
  | bplRel (rel8 : Byte)
  /-- `BVC $nnnn`, 0x50 (R197). -/
  | bvcRel (rel8 : Byte)
  /-- `BVS $nnnn`, 0x70 (R198). -/
  | bvsRel (rel8 : Byte)
  /-- `JMP $nnnn`, 0x4C (R199). -/
  | jmpAbs (addr16 : Word)
  /-- `JMP ($nnnn)`, 0x6C (R200). -/
  | jmpInd (addr16 : Word)
  /-- `JSR $nnnn`, 0x20 (R201). -/
  | jsrAbs (addr16 : Word)
  /-- `RTS`, 0x60 (R202). -/
  | rts
  /-- `RTI`, 0x40 (R203). -/
  | rti
  /-- `PHA`, 0x48 (R210). -/
  | pha
  /-- `PHP`, 0x08 (R211). -/
  | php
  /-- `PLA`, 0x68 (R212). -/
  | pla
  /-- `PLP`, 0x28 (R213). -/
  | plp
  /-- `CLC`, 0x18 (R214). -/
  | clc
  /-- `CLD`, 0xD8 (R215). -/
  | cld
  /-- `CLI`, 0x58 (R216). -/
  | cli
  /-- `CLV`, 0xB8 (R217). -/
  | clv
  /-- `SEC`, 0x38 (R218). -/
  | sec
  /-- `SED`, 0xF8 (R219). -/
  | sed
  /-- `SEI`, 0x78 (R220). -/
  | sei
  /-- `NOP`, 0xEA (R221). -/
  | nop
  /-- `BRK`, 0x00 (R222). -/
  | brk
deriving DecidableEq, Repr

end Sys2Proof
end

