-- ==== Sys2Proof/WellFormed.lean ====
section
/-! DEFINITION. Well-formed instructions. Every operand value is legal (R82) and the operand widths are types, so the
one check is the profile's: an instruction is well-formed when its opcode byte has a routine in the profile (R4, R87). -/

namespace Sys2Proof

/-- The instructions of the `MINIMUM` profile (R85): LDA in its eight modes, STA in its seven, TAX, INX, BRK. -/
def Instr.inMinimum : Instr → Bool
  | .ldaImm _ => true
  | .ldaZp _ => true
  | .ldaZpx _ => true
  | .ldaAbs _ => true
  | .ldaAbx _ => true
  | .ldaAby _ => true
  | .ldaIzx _ => true
  | .ldaIzy _ => true
  | .staZp _ => true
  | .staZpx _ => true
  | .staAbs _ => true
  | .staAbx _ => true
  | .staAby _ => true
  | .staIzx _ => true
  | .staIzy _ => true
  | .tax => true
  | .inx => true
  | .brk => true
  | _ => false

/-- The instruction exists in the profile (R4). -/
def Instr.wellFormed (profile : Profile) (i : Instr) : Bool :=
  match profile with
  | .full => true
  | .minimum => i.inMinimum

end Sys2Proof
end

