-- ==== Sys2Proof/Decode.lean ====
section
/-! DEFINITION. The byte-order helpers, the opcode map as the grid of R86, the decoder (total, rejecting by name), and
the encoder with each instruction's record (mnemonic and format, R84), written from the by-mnemonic table of R86. -/

namespace Sys2Proof

/-- Bits 7:0 of a word. -/
def lowByte (w : Word) : Byte := w.setWidth 8

/-- Bits 15:8 of a word. -/
def highByte (w : Word) : Byte := (w >>> 8).setWidth 8

/-- `hi:lo`, that is `hi * 256 + lo`, the little-endian word of two bytes (R53, spec/00_scope.md section 7). -/
def wordOf (lo hi : Byte) : Word := BitVec.ofNat 16 (hi.toNat * 256 + lo.toNat)

/-! ## The opcode map -/

/-- What an opcode byte promises: the operand field that follows (R80, R83) and the instruction it completes. -/
inductive Shape where
  | implied (i : Instr)
  | byte (f : Byte → Instr)
  | word (f : Word → Instr)

/-- A byte of the grid with a one-byte instruction. -/
def imp (i : Instr) : Option Shape := some (.implied i)

/-- A byte of the grid with one operand byte. -/
def byt (f : Byte → Instr) : Option Shape := some (.byte f)

/-- A byte of the grid with a 16-bit operand. -/
def wrd (f : Word → Instr) : Option Shape := some (.word f)

/-- An unassigned byte of the grid (R87). -/
def una : Option Shape := none

/-- Row 0x of the grid of R86. -/
def gridRow0 : List (Option Shape) :=
  [imp .brk, byt .oraIzx, una, una, una, byt .oraZp, byt .aslZp, una,
   imp .php, byt .oraImm, imp .aslAcc, una, una, wrd .oraAbs, wrd .aslAbs, una]

/-- Row 1x of the grid of R86. -/
def gridRow1 : List (Option Shape) :=
  [byt .bplRel, byt .oraIzy, una, una, una, byt .oraZpx, byt .aslZpx, una,
   imp .clc, wrd .oraAby, una, una, una, wrd .oraAbx, wrd .aslAbx, una]

/-- Row 2x of the grid of R86. -/
def gridRow2 : List (Option Shape) :=
  [wrd .jsrAbs, byt .andIzx, una, una, byt .bitZp, byt .andZp, byt .rolZp, una,
   imp .plp, byt .andImm, imp .rolAcc, una, wrd .bitAbs, wrd .andAbs, wrd .rolAbs, una]

/-- Row 3x of the grid of R86. -/
def gridRow3 : List (Option Shape) :=
  [byt .bmiRel, byt .andIzy, una, una, una, byt .andZpx, byt .rolZpx, una,
   imp .sec, wrd .andAby, una, una, una, wrd .andAbx, wrd .rolAbx, una]

/-- Row 4x of the grid of R86. -/
def gridRow4 : List (Option Shape) :=
  [imp .rti, byt .eorIzx, una, una, una, byt .eorZp, byt .lsrZp, una,
   imp .pha, byt .eorImm, imp .lsrAcc, una, wrd .jmpAbs, wrd .eorAbs, wrd .lsrAbs, una]

/-- Row 5x of the grid of R86. -/
def gridRow5 : List (Option Shape) :=
  [byt .bvcRel, byt .eorIzy, una, una, una, byt .eorZpx, byt .lsrZpx, una,
   imp .cli, wrd .eorAby, una, una, una, wrd .eorAbx, wrd .lsrAbx, una]

/-- Row 6x of the grid of R86. -/
def gridRow6 : List (Option Shape) :=
  [imp .rts, byt .adcIzx, una, una, una, byt .adcZp, byt .rorZp, una,
   imp .pla, byt .adcImm, imp .rorAcc, una, wrd .jmpInd, wrd .adcAbs, wrd .rorAbs, una]

/-- Row 7x of the grid of R86. -/
def gridRow7 : List (Option Shape) :=
  [byt .bvsRel, byt .adcIzy, una, una, una, byt .adcZpx, byt .rorZpx, una,
   imp .sei, wrd .adcAby, una, una, una, wrd .adcAbx, wrd .rorAbx, una]

/-- Row 8x of the grid of R86. -/
def gridRow8 : List (Option Shape) :=
  [una, byt .staIzx, una, una, byt .styZp, byt .staZp, byt .stxZp, una,
   imp .dey, una, imp .txa, una, wrd .styAbs, wrd .staAbs, wrd .stxAbs, una]

/-- Row 9x of the grid of R86. -/
def gridRow9 : List (Option Shape) :=
  [byt .bccRel, byt .staIzy, una, una, byt .styZpx, byt .staZpx, byt .stxZpy, una,
   imp .tya, wrd .staAby, imp .txs, una, una, wrd .staAbx, una, una]

/-- Row Ax of the grid of R86. -/
def gridRowA : List (Option Shape) :=
  [byt .ldyImm, byt .ldaIzx, byt .ldxImm, una, byt .ldyZp, byt .ldaZp, byt .ldxZp, una,
   imp .tay, byt .ldaImm, imp .tax, una, wrd .ldyAbs, wrd .ldaAbs, wrd .ldxAbs, una]

/-- Row Bx of the grid of R86. -/
def gridRowB : List (Option Shape) :=
  [byt .bcsRel, byt .ldaIzy, una, una, byt .ldyZpx, byt .ldaZpx, byt .ldxZpy, una,
   imp .clv, wrd .ldaAby, imp .tsx, una, wrd .ldyAbx, wrd .ldaAbx, wrd .ldxAby, una]

/-- Row Cx of the grid of R86. -/
def gridRowC : List (Option Shape) :=
  [byt .cpyImm, byt .cmpIzx, una, una, byt .cpyZp, byt .cmpZp, byt .decZp, una,
   imp .iny, byt .cmpImm, imp .dex, una, wrd .cpyAbs, wrd .cmpAbs, wrd .decAbs, una]

/-- Row Dx of the grid of R86. -/
def gridRowD : List (Option Shape) :=
  [byt .bneRel, byt .cmpIzy, una, una, una, byt .cmpZpx, byt .decZpx, una,
   imp .cld, wrd .cmpAby, una, una, una, wrd .cmpAbx, wrd .decAbx, una]

/-- Row Ex of the grid of R86. -/
def gridRowE : List (Option Shape) :=
  [byt .cpxImm, byt .sbcIzx, una, una, byt .cpxZp, byt .sbcZp, byt .incZp, una,
   imp .inx, byt .sbcImm, imp .nop, una, wrd .cpxAbs, wrd .sbcAbs, wrd .incAbs, una]

/-- Row Fx of the grid of R86. -/
def gridRowF : List (Option Shape) :=
  [byt .beqRel, byt .sbcIzy, una, una, una, byt .sbcZpx, byt .incZpx, una,
   imp .sed, wrd .sbcAby, una, una, una, wrd .sbcAbx, wrd .incAbx, una]

/-- The opcode map of the `FULL` profile (R86): 256 cells, indexed by the opcode byte. -/
def opcodeGrid : List (Option Shape) :=
  gridRow0 ++ gridRow1 ++ gridRow2 ++ gridRow3 ++ gridRow4 ++ gridRow5 ++ gridRow6 ++ gridRow7 ++
  gridRow8 ++ gridRow9 ++ gridRowA ++ gridRowB ++ gridRowC ++ gridRowD ++ gridRowE ++ gridRowF

/-- The opcode map of the `MINIMUM` profile (R85): these 18 bytes of the grid. -/
def minimumOpcodes : List Byte :=
  [0x00#8, 0x81#8, 0x85#8, 0x8D#8, 0x91#8, 0x95#8, 0x99#8, 0x9D#8, 0xA1#8,
   0xA5#8, 0xA9#8, 0xAA#8, 0xAD#8, 0xB1#8, 0xB5#8, 0xB9#8, 0xBD#8, 0xE8#8]

/-- The byte has a routine in the profile, if the grid gives it one (R4). -/
def inProfile (profile : Profile) (opcode : Byte) : Bool :=
  match profile with
  | .full => true
  | .minimum => minimumOpcodes.contains opcode

/-- `dispatch(opc)` of R100: the map of the active profile, a partial function on the opcode byte alone (R82, R89). -/
def dispatch (profile : Profile) (opcode : Byte) : Option Shape :=
  if inProfile profile opcode then opcodeGrid.getD opcode.toNat none else none

/-! ## The decoder -/

/-- Why bytes are no instruction. -/
inductive DecodeError where
  /-- The opcode byte has no routine in the profile (R87). -/
  | unassignedOpcode (opcode : Byte)
  /-- The bytes end before the instruction does; the bus never runs out of bytes, so no step meets it. -/
  | truncated
deriving DecidableEq, Repr

/-- Decodes one instruction from the front of a list of bytes and gives the rest back (R80, R81, R82). -/
def decode (profile : Profile) : List Byte → Except DecodeError (Instr × List Byte)
  | [] => .error .truncated
  | opcode :: operand =>
    match dispatch profile opcode with
    | none => .error (.unassignedOpcode opcode)
    | some (.implied i) => .ok (i, operand)
    | some (.byte f) =>
      match operand with
      | b :: rest => .ok (f b, rest)
      | [] => .error .truncated
    | some (.word f) =>
      match operand with
      | lo :: hi :: rest => .ok (f (wordOf lo hi), rest)
      | _ => .error .truncated

/-- The bytes of a table word: bit 0 of `w` is bit 0 of the first byte, bits above `nbits` are zero. -/
def tableBytes (nbits w : Nat) : List Byte :=
  let v := w % 2 ^ nbits
  [BitVec.ofNat 8 v, BitVec.ofNat 8 (v / 2 ^ 8), BitVec.ofNat 8 (v / 2 ^ 16)]

/-- The instruction the decoder reads from a table word. -/
def decodeTableWord (nbits w : Nat) : Option Instr :=
  match decode Config.isaProfile (tableBytes nbits w) with
  | .ok (i, _) => some i
  | .error _ => none

/-! ## The encoder and the dispatch records -/

/-- The words of an instruction: opcode byte, then the operand field low byte first (R81, and the encodings of the
instruction rules). -/
def encode : Instr → List Byte
  | .ldaImm b => [0xA9#8, b]
  | .ldaZp b => [0xA5#8, b]
  | .ldaZpx b => [0xB5#8, b]
  | .ldaAbs w => [0xAD#8, lowByte w, highByte w]
  | .ldaAbx w => [0xBD#8, lowByte w, highByte w]
  | .ldaAby w => [0xB9#8, lowByte w, highByte w]
  | .ldaIzx b => [0xA1#8, b]
  | .ldaIzy b => [0xB1#8, b]
  | .staZp b => [0x85#8, b]
  | .staZpx b => [0x95#8, b]
  | .staAbs w => [0x8D#8, lowByte w, highByte w]
  | .staAbx w => [0x9D#8, lowByte w, highByte w]
  | .staAby w => [0x99#8, lowByte w, highByte w]
  | .staIzx b => [0x81#8, b]
  | .staIzy b => [0x91#8, b]
  | .ldxImm b => [0xA2#8, b]
  | .ldxZp b => [0xA6#8, b]
  | .ldxZpy b => [0xB6#8, b]
  | .ldxAbs w => [0xAE#8, lowByte w, highByte w]
  | .ldxAby w => [0xBE#8, lowByte w, highByte w]
  | .ldyImm b => [0xA0#8, b]
  | .ldyZp b => [0xA4#8, b]
  | .ldyZpx b => [0xB4#8, b]
  | .ldyAbs w => [0xAC#8, lowByte w, highByte w]
  | .ldyAbx w => [0xBC#8, lowByte w, highByte w]
  | .stxZp b => [0x86#8, b]
  | .stxZpy b => [0x96#8, b]
  | .stxAbs w => [0x8E#8, lowByte w, highByte w]
  | .styZp b => [0x84#8, b]
  | .styZpx b => [0x94#8, b]
  | .styAbs w => [0x8C#8, lowByte w, highByte w]
  | .tax => [0xAA#8]
  | .inx => [0xE8#8]
  | .tay => [0xA8#8]
  | .txa => [0x8A#8]
  | .tya => [0x98#8]
  | .tsx => [0xBA#8]
  | .txs => [0x9A#8]
  | .iny => [0xC8#8]
  | .dex => [0xCA#8]
  | .dey => [0x88#8]
  | .incZp b => [0xE6#8, b]
  | .incZpx b => [0xF6#8, b]
  | .incAbs w => [0xEE#8, lowByte w, highByte w]
  | .incAbx w => [0xFE#8, lowByte w, highByte w]
  | .decZp b => [0xC6#8, b]
  | .decZpx b => [0xD6#8, b]
  | .decAbs w => [0xCE#8, lowByte w, highByte w]
  | .decAbx w => [0xDE#8, lowByte w, highByte w]
  | .adcImm b => [0x69#8, b]
  | .adcZp b => [0x65#8, b]
  | .adcZpx b => [0x75#8, b]
  | .adcAbs w => [0x6D#8, lowByte w, highByte w]
  | .adcAbx w => [0x7D#8, lowByte w, highByte w]
  | .adcAby w => [0x79#8, lowByte w, highByte w]
  | .adcIzx b => [0x61#8, b]
  | .adcIzy b => [0x71#8, b]
  | .sbcImm b => [0xE9#8, b]
  | .sbcZp b => [0xE5#8, b]
  | .sbcZpx b => [0xF5#8, b]
  | .sbcAbs w => [0xED#8, lowByte w, highByte w]
  | .sbcAbx w => [0xFD#8, lowByte w, highByte w]
  | .sbcAby w => [0xF9#8, lowByte w, highByte w]
  | .sbcIzx b => [0xE1#8, b]
  | .sbcIzy b => [0xF1#8, b]
  | .andImm b => [0x29#8, b]
  | .andZp b => [0x25#8, b]
  | .andZpx b => [0x35#8, b]
  | .andAbs w => [0x2D#8, lowByte w, highByte w]
  | .andAbx w => [0x3D#8, lowByte w, highByte w]
  | .andAby w => [0x39#8, lowByte w, highByte w]
  | .andIzx b => [0x21#8, b]
  | .andIzy b => [0x31#8, b]
  | .oraImm b => [0x09#8, b]
  | .oraZp b => [0x05#8, b]
  | .oraZpx b => [0x15#8, b]
  | .oraAbs w => [0x0D#8, lowByte w, highByte w]
  | .oraAbx w => [0x1D#8, lowByte w, highByte w]
  | .oraAby w => [0x19#8, lowByte w, highByte w]
  | .oraIzx b => [0x01#8, b]
  | .oraIzy b => [0x11#8, b]
  | .eorImm b => [0x49#8, b]
  | .eorZp b => [0x45#8, b]
  | .eorZpx b => [0x55#8, b]
  | .eorAbs w => [0x4D#8, lowByte w, highByte w]
  | .eorAbx w => [0x5D#8, lowByte w, highByte w]
  | .eorAby w => [0x59#8, lowByte w, highByte w]
  | .eorIzx b => [0x41#8, b]
  | .eorIzy b => [0x51#8, b]
  | .cmpImm b => [0xC9#8, b]
  | .cmpZp b => [0xC5#8, b]
  | .cmpZpx b => [0xD5#8, b]
  | .cmpAbs w => [0xCD#8, lowByte w, highByte w]
  | .cmpAbx w => [0xDD#8, lowByte w, highByte w]
  | .cmpAby w => [0xD9#8, lowByte w, highByte w]
  | .cmpIzx b => [0xC1#8, b]
  | .cmpIzy b => [0xD1#8, b]
  | .cpxImm b => [0xE0#8, b]
  | .cpxZp b => [0xE4#8, b]
  | .cpxAbs w => [0xEC#8, lowByte w, highByte w]
  | .cpyImm b => [0xC0#8, b]
  | .cpyZp b => [0xC4#8, b]
  | .cpyAbs w => [0xCC#8, lowByte w, highByte w]
  | .bitZp b => [0x24#8, b]
  | .bitAbs w => [0x2C#8, lowByte w, highByte w]
  | .aslAcc => [0x0A#8]
  | .aslZp b => [0x06#8, b]
  | .aslZpx b => [0x16#8, b]
  | .aslAbs w => [0x0E#8, lowByte w, highByte w]
  | .aslAbx w => [0x1E#8, lowByte w, highByte w]
  | .lsrAcc => [0x4A#8]
  | .lsrZp b => [0x46#8, b]
  | .lsrZpx b => [0x56#8, b]
  | .lsrAbs w => [0x4E#8, lowByte w, highByte w]
  | .lsrAbx w => [0x5E#8, lowByte w, highByte w]
  | .rolAcc => [0x2A#8]
  | .rolZp b => [0x26#8, b]
  | .rolZpx b => [0x36#8, b]
  | .rolAbs w => [0x2E#8, lowByte w, highByte w]
  | .rolAbx w => [0x3E#8, lowByte w, highByte w]
  | .rorAcc => [0x6A#8]
  | .rorZp b => [0x66#8, b]
  | .rorZpx b => [0x76#8, b]
  | .rorAbs w => [0x6E#8, lowByte w, highByte w]
  | .rorAbx w => [0x7E#8, lowByte w, highByte w]
  | .bccRel b => [0x90#8, b]
  | .bcsRel b => [0xB0#8, b]
  | .beqRel b => [0xF0#8, b]
  | .bmiRel b => [0x30#8, b]
  | .bneRel b => [0xD0#8, b]
  | .bplRel b => [0x10#8, b]
  | .bvcRel b => [0x50#8, b]
  | .bvsRel b => [0x70#8, b]
  | .jmpAbs w => [0x4C#8, lowByte w, highByte w]
  | .jmpInd w => [0x6C#8, lowByte w, highByte w]
  | .jsrAbs w => [0x20#8, lowByte w, highByte w]
  | .rts => [0x60#8]
  | .rti => [0x40#8]
  | .pha => [0x48#8]
  | .php => [0x08#8]
  | .pla => [0x68#8]
  | .plp => [0x28#8]
  | .clc => [0x18#8]
  | .cld => [0xD8#8]
  | .cli => [0x58#8]
  | .clv => [0xB8#8]
  | .sec => [0x38#8]
  | .sed => [0xF8#8]
  | .sei => [0x78#8]
  | .nop => [0xEA#8]
  | .brk => [0x00#8]

/-- A row of the dispatch table (R84): the mnemonic and the format, which gives length and resolver mode (R81). -/
structure OpRecord where
  mnemonic : Mnemonic
  format : Format
deriving DecidableEq, Repr

/-- The row of the opcode map an instruction belongs to (R86, the table by mnemonic). -/
def Instr.record : Instr → OpRecord
  | .ldaImm _ => ⟨.LDA, .IMM⟩
  | .ldaZp _ => ⟨.LDA, .ZP⟩
  | .ldaZpx _ => ⟨.LDA, .ZPX⟩
  | .ldaAbs _ => ⟨.LDA, .ABS⟩
  | .ldaAbx _ => ⟨.LDA, .ABX⟩
  | .ldaAby _ => ⟨.LDA, .ABY⟩
  | .ldaIzx _ => ⟨.LDA, .IZX⟩
  | .ldaIzy _ => ⟨.LDA, .IZY⟩
  | .staZp _ => ⟨.STA, .ZP⟩
  | .staZpx _ => ⟨.STA, .ZPX⟩
  | .staAbs _ => ⟨.STA, .ABS⟩
  | .staAbx _ => ⟨.STA, .ABX⟩
  | .staAby _ => ⟨.STA, .ABY⟩
  | .staIzx _ => ⟨.STA, .IZX⟩
  | .staIzy _ => ⟨.STA, .IZY⟩
  | .ldxImm _ => ⟨.LDX, .IMM⟩
  | .ldxZp _ => ⟨.LDX, .ZP⟩
  | .ldxZpy _ => ⟨.LDX, .ZPY⟩
  | .ldxAbs _ => ⟨.LDX, .ABS⟩
  | .ldxAby _ => ⟨.LDX, .ABY⟩
  | .ldyImm _ => ⟨.LDY, .IMM⟩
  | .ldyZp _ => ⟨.LDY, .ZP⟩
  | .ldyZpx _ => ⟨.LDY, .ZPX⟩
  | .ldyAbs _ => ⟨.LDY, .ABS⟩
  | .ldyAbx _ => ⟨.LDY, .ABX⟩
  | .stxZp _ => ⟨.STX, .ZP⟩
  | .stxZpy _ => ⟨.STX, .ZPY⟩
  | .stxAbs _ => ⟨.STX, .ABS⟩
  | .styZp _ => ⟨.STY, .ZP⟩
  | .styZpx _ => ⟨.STY, .ZPX⟩
  | .styAbs _ => ⟨.STY, .ABS⟩
  | .tax => ⟨.TAX, .IMP⟩
  | .inx => ⟨.INX, .IMP⟩
  | .tay => ⟨.TAY, .IMP⟩
  | .txa => ⟨.TXA, .IMP⟩
  | .tya => ⟨.TYA, .IMP⟩
  | .tsx => ⟨.TSX, .IMP⟩
  | .txs => ⟨.TXS, .IMP⟩
  | .iny => ⟨.INY, .IMP⟩
  | .dex => ⟨.DEX, .IMP⟩
  | .dey => ⟨.DEY, .IMP⟩
  | .incZp _ => ⟨.INC, .ZP⟩
  | .incZpx _ => ⟨.INC, .ZPX⟩
  | .incAbs _ => ⟨.INC, .ABS⟩
  | .incAbx _ => ⟨.INC, .ABX⟩
  | .decZp _ => ⟨.DEC, .ZP⟩
  | .decZpx _ => ⟨.DEC, .ZPX⟩
  | .decAbs _ => ⟨.DEC, .ABS⟩
  | .decAbx _ => ⟨.DEC, .ABX⟩
  | .adcImm _ => ⟨.ADC, .IMM⟩
  | .adcZp _ => ⟨.ADC, .ZP⟩
  | .adcZpx _ => ⟨.ADC, .ZPX⟩
  | .adcAbs _ => ⟨.ADC, .ABS⟩
  | .adcAbx _ => ⟨.ADC, .ABX⟩
  | .adcAby _ => ⟨.ADC, .ABY⟩
  | .adcIzx _ => ⟨.ADC, .IZX⟩
  | .adcIzy _ => ⟨.ADC, .IZY⟩
  | .sbcImm _ => ⟨.SBC, .IMM⟩
  | .sbcZp _ => ⟨.SBC, .ZP⟩
  | .sbcZpx _ => ⟨.SBC, .ZPX⟩
  | .sbcAbs _ => ⟨.SBC, .ABS⟩
  | .sbcAbx _ => ⟨.SBC, .ABX⟩
  | .sbcAby _ => ⟨.SBC, .ABY⟩
  | .sbcIzx _ => ⟨.SBC, .IZX⟩
  | .sbcIzy _ => ⟨.SBC, .IZY⟩
  | .andImm _ => ⟨.AND, .IMM⟩
  | .andZp _ => ⟨.AND, .ZP⟩
  | .andZpx _ => ⟨.AND, .ZPX⟩
  | .andAbs _ => ⟨.AND, .ABS⟩
  | .andAbx _ => ⟨.AND, .ABX⟩
  | .andAby _ => ⟨.AND, .ABY⟩
  | .andIzx _ => ⟨.AND, .IZX⟩
  | .andIzy _ => ⟨.AND, .IZY⟩
  | .oraImm _ => ⟨.ORA, .IMM⟩
  | .oraZp _ => ⟨.ORA, .ZP⟩
  | .oraZpx _ => ⟨.ORA, .ZPX⟩
  | .oraAbs _ => ⟨.ORA, .ABS⟩
  | .oraAbx _ => ⟨.ORA, .ABX⟩
  | .oraAby _ => ⟨.ORA, .ABY⟩
  | .oraIzx _ => ⟨.ORA, .IZX⟩
  | .oraIzy _ => ⟨.ORA, .IZY⟩
  | .eorImm _ => ⟨.EOR, .IMM⟩
  | .eorZp _ => ⟨.EOR, .ZP⟩
  | .eorZpx _ => ⟨.EOR, .ZPX⟩
  | .eorAbs _ => ⟨.EOR, .ABS⟩
  | .eorAbx _ => ⟨.EOR, .ABX⟩
  | .eorAby _ => ⟨.EOR, .ABY⟩
  | .eorIzx _ => ⟨.EOR, .IZX⟩
  | .eorIzy _ => ⟨.EOR, .IZY⟩
  | .cmpImm _ => ⟨.CMP, .IMM⟩
  | .cmpZp _ => ⟨.CMP, .ZP⟩
  | .cmpZpx _ => ⟨.CMP, .ZPX⟩
  | .cmpAbs _ => ⟨.CMP, .ABS⟩
  | .cmpAbx _ => ⟨.CMP, .ABX⟩
  | .cmpAby _ => ⟨.CMP, .ABY⟩
  | .cmpIzx _ => ⟨.CMP, .IZX⟩
  | .cmpIzy _ => ⟨.CMP, .IZY⟩
  | .cpxImm _ => ⟨.CPX, .IMM⟩
  | .cpxZp _ => ⟨.CPX, .ZP⟩
  | .cpxAbs _ => ⟨.CPX, .ABS⟩
  | .cpyImm _ => ⟨.CPY, .IMM⟩
  | .cpyZp _ => ⟨.CPY, .ZP⟩
  | .cpyAbs _ => ⟨.CPY, .ABS⟩
  | .bitZp _ => ⟨.BIT, .ZP⟩
  | .bitAbs _ => ⟨.BIT, .ABS⟩
  | .aslAcc => ⟨.ASL, .ACC⟩
  | .aslZp _ => ⟨.ASL, .ZP⟩
  | .aslZpx _ => ⟨.ASL, .ZPX⟩
  | .aslAbs _ => ⟨.ASL, .ABS⟩
  | .aslAbx _ => ⟨.ASL, .ABX⟩
  | .lsrAcc => ⟨.LSR, .ACC⟩
  | .lsrZp _ => ⟨.LSR, .ZP⟩
  | .lsrZpx _ => ⟨.LSR, .ZPX⟩
  | .lsrAbs _ => ⟨.LSR, .ABS⟩
  | .lsrAbx _ => ⟨.LSR, .ABX⟩
  | .rolAcc => ⟨.ROL, .ACC⟩
  | .rolZp _ => ⟨.ROL, .ZP⟩
  | .rolZpx _ => ⟨.ROL, .ZPX⟩
  | .rolAbs _ => ⟨.ROL, .ABS⟩
  | .rolAbx _ => ⟨.ROL, .ABX⟩
  | .rorAcc => ⟨.ROR, .ACC⟩
  | .rorZp _ => ⟨.ROR, .ZP⟩
  | .rorZpx _ => ⟨.ROR, .ZPX⟩
  | .rorAbs _ => ⟨.ROR, .ABS⟩
  | .rorAbx _ => ⟨.ROR, .ABX⟩
  | .bccRel _ => ⟨.BCC, .REL⟩
  | .bcsRel _ => ⟨.BCS, .REL⟩
  | .beqRel _ => ⟨.BEQ, .REL⟩
  | .bmiRel _ => ⟨.BMI, .REL⟩
  | .bneRel _ => ⟨.BNE, .REL⟩
  | .bplRel _ => ⟨.BPL, .REL⟩
  | .bvcRel _ => ⟨.BVC, .REL⟩
  | .bvsRel _ => ⟨.BVS, .REL⟩
  | .jmpAbs _ => ⟨.JMP, .ABS⟩
  | .jmpInd _ => ⟨.JMP, .IND⟩
  | .jsrAbs _ => ⟨.JSR, .ABS⟩
  | .rts => ⟨.RTS, .IMP⟩
  | .rti => ⟨.RTI, .IMP⟩
  | .pha => ⟨.PHA, .IMP⟩
  | .php => ⟨.PHP, .IMP⟩
  | .pla => ⟨.PLA, .IMP⟩
  | .plp => ⟨.PLP, .IMP⟩
  | .clc => ⟨.CLC, .IMP⟩
  | .cld => ⟨.CLD, .IMP⟩
  | .cli => ⟨.CLI, .IMP⟩
  | .clv => ⟨.CLV, .IMP⟩
  | .sec => ⟨.SEC, .IMP⟩
  | .sed => ⟨.SED, .IMP⟩
  | .sei => ⟨.SEI, .IMP⟩
  | .nop => ⟨.NOP, .IMP⟩
  | .brk => ⟨.BRK, .IMP⟩

/-- The mnemonic of an instruction. -/
def Instr.mnemonic (i : Instr) : Mnemonic := i.record.mnemonic

/-- The format of an instruction. -/
def Instr.format (i : Instr) : Format := i.record.format

/-- The operand length of a format (R81, R101): 0 for implied, 1 for the 8-bit operands, 2 for the 16-bit operands. -/
def Format.operandLength : Format → Nat
  | .IMP | .ACC => 0
  | .IMM | .ZP | .ZPX | .ZPY | .IZX | .IZY | .REL => 1
  | .ABS | .ABX | .ABY | .IND => 2

/-- The length of an instruction in bytes (R80, R82). -/
def Instr.length (i : Instr) : Nat := 1 + i.format.operandLength

/-- The resolver mode of a format (R81): `ACC`, `REL` and `IND` are `NoneAddressing`, the routine reads the operand. -/
def Format.mode : Format → AddressingMode
  | .IMM => .immediate
  | .ZP => .zeroPage
  | .ZPX => .zeroPageX
  | .ZPY => .zeroPageY
  | .ABS => .absolute
  | .ABX => .absoluteX
  | .ABY => .absoluteY
  | .IZX => .indirectX
  | .IZY => .indirectY
  | .IMP | .ACC | .REL | .IND => .noneAddressing

end Sys2Proof
end

