-- ==== Sys2Proof/Machine/Flags.lean ====
section
/-! DEFINITION. The Status Flag Unit and the ALU (spec/40_step_addressing_flags.md sections 3 and 4, and the result
formulas of spec/43 and spec/44): functions on bytes, each giving the new status byte and the result. -/

namespace Sys2Proof.Machine

/-! ## The bits of `P` (R17) -/

/-- `P.C`, carry. -/
def bitC : Nat := 0
/-- `P.Z`, zero. -/
def bitZ : Nat := 1
/-- `P.I`, interrupt-disable. -/
def bitI : Nat := 2
/-- `P.D`, decimal. -/
def bitD : Nat := 3
/-- `P.B`, break. -/
def bitB : Nat := 4
/-- `P.U`, unused. -/
def bitU : Nat := 5
/-- `P.V`, overflow. -/
def bitV : Nat := 6
/-- `P.N`, negative. -/
def bitN : Nat := 7

/-- Reads one flag. -/
def flag (p : Byte) (k : Nat) : Bool := p.getLsbD k

/-- `P.f <- b` (R117): sets or clears one bit and leaves the other seven. -/
def setFlag (p : Byte) (k : Nat) (b : Bool) : Byte :=
  if b then p ||| (1#8 <<< k) else p &&& ~~~(1#8 <<< k)

/-- `set_zn(result)` (R116). -/
def setZN (p r : Byte) : Byte := setFlag (setFlag p bitZ (r == 0#8)) bitN (r.getLsbD 7)

/-- A result of the ALU: the byte and the status that goes with it. -/
structure AluOut where
  value : Byte
  status : Byte
deriving DecidableEq, Repr

/-- A result whose status is `set_zn` of it (R116): loads, transfers, increments, decrements, logic. -/
def znOut (p r : Byte) : AluOut := { value := r, status := setZN p r }

/-- INC, INX, INY (R150, R141, R147). -/
def incCore (v p : Byte) : AluOut := znOut p (v + 1#8)

/-- DEC, DEX, DEY (R151, R148, R149). -/
def decCore (v p : Byte) : AluOut := znOut p (v - 1#8)

/-- AND (R162). -/
def andCore (a m p : Byte) : AluOut := znOut p (a &&& m)

/-- ORA (R163). -/
def oraCore (a m p : Byte) : AluOut := znOut p (a ||| m)

/-- EOR (R164). -/
def eorCore (a m p : Byte) : AluOut := znOut p (a ^^^ m)

/-- `adc_core(m)` (R118): binary whatever `P.D` holds. -/
def adcCore (a m p : Byte) : AluOut :=
  let t := a.toNat + m.toNat + (flag p bitC).toNat
  let r := BitVec.ofNat 8 t
  let p1 := setFlag p bitC (decide (t > 255))
  let p2 := setFlag p1 bitV (((a ^^^ r) &&& (m ^^^ r) &&& 0x80#8) != 0#8)
  { value := r, status := setZN p2 r }

/-- SBC (R161): `adc_core` of the one's complement. -/
def sbcCore (a m p : Byte) : AluOut := adcCore a (m ^^^ 0xFF#8) p

/-- `compare(reg, m)` (R119): the new status byte. -/
def compareStatus (reg m p : Byte) : Byte :=
  setZN (setFlag p bitC (decide (m.toNat ≤ reg.toNat))) (reg - m)

/-- BIT (R168): `P.Z` from the and, `P.N` and `P.V` from bits 7 and 6 of the memory byte. -/
def bitStatus (a m p : Byte) : Byte :=
  setFlag (setFlag (setFlag p bitZ ((a &&& m) == 0#8)) bitN (m.getLsbD 7)) bitV (m.getLsbD 6)

/-- The common end of the shifts (spec/44): `P.C <- c; set_zn(r)`. -/
def shiftOut (p r : Byte) (c : Bool) : AluOut := { value := r, status := setZN (setFlag p bitC c) r }

/-- ASL (R180). -/
def aslCore (v p : Byte) : AluOut := shiftOut p (v <<< 1) (v.getLsbD 7)

/-- LSR (R181). -/
def lsrCore (v p : Byte) : AluOut := shiftOut p (v >>> 1) (v.getLsbD 0)

/-- ROL (R182): `P.C` is the bit rotated in. -/
def rolCore (v p : Byte) : AluOut :=
  shiftOut p ((v <<< 1) ||| (if flag p bitC then 0x01#8 else 0x00#8)) (v.getLsbD 7)

/-- ROR (R183): `P.C` is the bit rotated in. -/
def rorCore (v p : Byte) : AluOut :=
  shiftOut p ((v >>> 1) ||| (if flag p bitC then 0x80#8 else 0x00#8)) (v.getLsbD 0)

/-- The byte PHP pushes (R211): bits 4 and 5 set whatever `P` holds there. -/
def pushedStatus (p : Byte) : Byte := p ||| 0x30#8

/-- The status PLP and RTI load (R213, R203): bits 4 and 5 of `P` keep their value. -/
def pulledStatus (pulled p : Byte) : Byte := (pulled &&& 0xCF#8) ||| (p &&& 0x30#8)

end Sys2Proof.Machine
end

