-- ==== Sys2Proof/Machine/State.lean ====
section
/-! DEFINITION. The state of the block, as plain data, holding every piece of state of spec/10_state.md; the fatal
conditions of R230; and the state right after reset. -/

namespace Sys2Proof.Machine

/-- A fatal condition with the values it records (R230). -/
inductive Fault where
  /-- `F1` (R231): an opcode byte with no routine in the active profile, and the address it was fetched from. Raised
  by the step at dispatch (`stepIn`). It is the spec's own fault, so it is safe. -/
  | unimplementedOpcode (opcode : Byte) (opaddr : Word)
  /-- `F2` (R232): the resolver called with `NoneAddressing`, and the opcode address. Raised by `State.resolve` only;
  no opcode reaches it (log 14). It is the spec's own fault, so it is safe. -/
  | invalidAddressingMode (mode : AddressingMode) (opaddr : Word)
  /-- `F3` (R233): the picture-unit data port, outside the block. Nothing in the model raises it (log 14). Safe. -/
  | pictureDataPortViolation (addr : Word)
deriving DecidableEq, Repr

/-- Why a step has no meaning. -/
inductive Refusal where
  /-- An instruction without a meaning, refused by name in exec's arm. No arm raises it: every row of the table has
  its meaning. Safe. -/
  | notModelled (mnemonic : String)
deriving DecidableEq, Repr

/-- `run_state` (R20). -/
inductive RunState where
  | running
  | halted
  | faulted (condition : Fault)
deriving DecidableEq, Repr

/-- A byte array as the list of its cells (index, byte) that differ from `Config.unlistedByte`, indexes rising
(`Memory.wf`; log 12). -/
abbrev Memory := List Host.Cell

/-- The state of the block (spec/10_state.md). -/
@[ext]
structure State where
  /-- `A`, the accumulator (R10). -/
  a : Byte
  /-- `X`, index register X (R11). -/
  x : Byte
  /-- `Y`, index register Y (R12). -/
  y : Byte
  /-- `P`, the status register; its bits are those of R17 and all eight are state (R19). -/
  p : Byte
  /-- `SP`, the stack pointer, an offset into the stack page (R16). -/
  sp : Byte
  /-- `PC`, the program counter (R14). -/
  pc : Word
  /-- `run_state` (R20). -/
  runState : RunState
  /-- `ram[0..2047]`, the work RAM (R21). -/
  ram : Memory
  /-- `ppu_reg[0..7]`, the picture-unit shadow file (R22). -/
  ppuReg : Memory
  /-- `rom[0..32767]`, the program ROM (R23). -/
  rom : Memory
  /-- `latch_hi`, the high byte of the address latch (R24). -/
  latchHi : Byte
  /-- `latch_lo`, the low byte of the address latch (R24). -/
  latchLo : Byte
  /-- `latch_expect_hi`, the toggle: the next latch write goes to the high byte (R25). -/
  latchExpectHi : Bool
  /-- `ctrl`, the picture unit's control byte (R26). -/
  ctrl : Byte
deriving DecidableEq, Repr

/-- What one step or one instruction answers. -/
abbrev Result := Host.Outcome State Fault Refusal

/-- The machine right after creation and reset (R28, R29): `A`, `X`, `P` zero; `PC` the word at 0xFFFC, which is
0x0000 in the all-zero ROM (R263); `run_state` HALTED, which creation sets and reset leaves (R20); the toggle at
"expect high byte" (R25). `Y`, `SP`, `ram`, `ppu_reg`, the latch and `ctrl` are OPEN in the spec and zero here:
DESIGN CHOICE, log 1, 2, 3. -/
def State.reset : State :=
  { a := 0x00#8, x := 0x00#8, y := 0x00#8, p := 0x00#8, sp := 0x00#8, pc := 0x0000#16, runState := .halted,
    ram := [], ppuReg := [], rom := [], latchHi := 0x00#8, latchLo := 0x00#8, latchExpectHi := true,
    ctrl := 0x00#8 }

end Sys2Proof.Machine
end

