-- ==== Sys2Proof/Machine/Ops.lean ====
section
/-! DEFINITION. The named operations the meanings share: the byte arrays, the Memory Bus (spec/20 sections 2 and 3),
the Picture-Unit Register Shim (spec/20 section 4), the stack (R120, R121), the end of a step (R101, R103), entering a
fatal condition (R236), and the return RTI makes (R203). -/

namespace Sys2Proof.Machine

/-! ## The byte arrays (R21, R22, R23) -/

/-- `arr[i]`. -/
def Memory.get : Memory → Nat → Byte
  | [], _ => Config.unlistedByte
  | c :: m, i => if c.1 = i then c.2 else Memory.get m i

/-- The array without an entry for `i`. -/
def Memory.remove (m : Memory) (i : Nat) : Memory := m.filter fun c => c.1 != i

/-- Puts an entry for `i` in its place among rising indexes. -/
def Memory.place : Memory → Nat → Byte → Memory
  | [], i, v => [(i, v)]
  | c :: m, i, v => if i < c.1 then (i, v) :: c :: m else c :: Memory.place m i v

/-- `arr[i] <- v`, keeping the canonical form: a byte equal to what an unlisted index reads as is not listed. -/
def Memory.set (m : Memory) (i : Nat) (v : Byte) : Memory :=
  if v = Config.unlistedByte then m.remove i else (m.remove i).place i v

/-- The canonical form of an array of `size` bytes: indexes strictly rising and in range, no entry that an unlisted
index would read as anyway. -/
abbrev Memory.wf (size : Nat) (m : Memory) : Prop :=
  m.Pairwise (fun c d => c.1 < d.1) ∧ ∀ c ∈ m, c.1 < size ∧ c.2 ≠ Config.unlistedByte

/-! ## The Picture-Unit Register Shim -/

/-- `get_address()` (R58): the combined latch value. -/
def State.getAddress (s : State) : Word := wordOf s.latchLo s.latchHi

/-- The mask that ends every latch operation (R57, R59): the latch is reduced to 14 bits if it exceeds that range. -/
def State.maskLatch (s : State) : State :=
  let v := s.getAddress
  let w := if v.toNat > Config.latchMask.toNat then v &&& Config.latchMask else v
  { s with latchHi := highByte w, latchLo := lowByte w }

/-- `write_address_latch(byte)` (R57). -/
def State.writeAddressLatch (s : State) (b : Byte) : State :=
  let s1 := if s.latchExpectHi then { s with latchHi := b } else { s with latchLo := b }
  { s1.maskLatch with latchExpectHi := !s.latchExpectHi }

/-- `increment(step)` (R59), with the mask of decision D11 (log 8); any step of 0 to 255 is in its domain (U6). -/
def State.incrementLatch (s : State) (step : Byte) : State :=
  let lo := s.latchLo + step
  let hi := if lo.toNat < s.latchLo.toNat then s.latchHi + 1#8 else s.latchHi
  State.maskLatch { s with latchHi := hi, latchLo := lo }

/-- `write_control(byte)` (R60). -/
def State.writeControl (s : State) (b : Byte) : State := { s with ctrl := b &&& Config.ctrlRecognizedMask }

/-- `vram_addr_increment()` (R61): 1 or 32. -/
def State.vramAddrIncrement (s : State) : Byte := if s.ctrl.getLsbD Config.ctrlIncBit then 32#8 else 1#8

/-- `reset_latch_toggle()` (R64). -/
def State.resetLatchToggle (s : State) : State := { s with latchExpectHi := true }

/-! ## The Memory Bus -/

/-- The cell an address selects (R41). -/
inductive BusTarget where
  | ram (i : Nat)
  | ppu (r : Nat)
  | rom (i : Nat)
  | unmapped
deriving DecidableEq, Repr

/-- Address decode (R41), the rows in the table's order. -/
def busDecode (addr : Word) : BusTarget :=
  if addr.toNat ≤ 0x1FFF then .ram (addr &&& 0x07FF#16).toNat
  else if addr.toNat ≤ 0x3FFF then .ppu (addr &&& 0x0007#16).toNat
  else if Config.romBase ≤ addr.toNat then .rom (addr.toNat - Config.romBase)
  else .unmapped

/-- `MemRead(addr, 1)` (R49, with R42, R43, R45, R47). -/
def State.read (s : State) (addr : Word) : Byte :=
  match busDecode addr with
  | .ram i => s.ram.get i
  | .ppu r => s.ppuReg.get r
  | .rom i => s.rom.get i
  | .unmapped => 0x00#8

/-- The register-window write (R44): the shadow byte, then the control register or the address latch. -/
def State.writePictureRegister (s : State) (r : Nat) (v : Byte) : State :=
  let s1 := { s with ppuReg := s.ppuReg.set r v }
  if r = Config.ppuRegCtrl then s1.writeControl v
  else if r = Config.ppuRegAddr then s1.writeAddressLatch v
  else s1

/-- `MemWrite(addr, 1, v)` (R49, with R42, R44, R46, R47). -/
def State.write (s : State) (addr : Word) (v : Byte) : State :=
  match busDecode addr with
  | .ram i => { s with ram := s.ram.set i v }
  | .ppu r => s.writePictureRegister r v
  | .rom i => { s with rom := s.rom.set i v }
  | .unmapped => s

/-- `MemRead(addr, 2)` (R50, R52): two byte reads, low byte first, the second at `addr + 1` modulo 65536. -/
def State.readWord (s : State) (addr : Word) : Word := wordOf (s.read addr) (s.read (addr + 1#16))

/-- `MemWrite(addr, 2, v)` (R51, R52): two byte writes, low byte first. -/
def State.writeWord (s : State) (addr : Word) (v : Word) : State :=
  (s.write addr (lowByte v)).write (addr + 1#16) (highByte v)

/-! ## The stack -/

/-- The address `SP` designates (R16): `STACK_PAGE:SP`. -/
def stackAddr (sp : Byte) : Word := wordOf sp Config.stackPage

/-- `push(v)` (R120). -/
def State.push (s : State) (v : Byte) : State := { s.write (stackAddr s.sp) v with sp := s.sp - 1#8 }

/-- The byte `pull()` gives (R121): read after the increment of `SP`. -/
def State.pulledByte (s : State) : Byte := s.read (stackAddr (s.sp + 1#8))

/-- The state `pull()` leaves (R121). -/
def State.afterPull (s : State) : State := { s with sp := s.sp + 1#8 }

/-- Two pushes, high byte first, as JSR makes them (R201, R53). -/
def State.pushWord (s : State) (w : Word) : State := (s.push (highByte w)).push (lowByte w)

/-- The word two pulls give, low byte first (R202, R203). -/
def State.pulledWord (s : State) : Word := wordOf s.pulledByte s.afterPull.pulledByte

/-- The state two pulls leave. -/
def State.afterPullWord (s : State) : State := s.afterPull.afterPull

/-! ## The end of a step -/

/-- Part (4) of the step (R100, R101): a routine that does not transfer control is followed by the advance over the
operand bytes. -/
def finish (operandLength : Word) (s : State) : Result := .next { s with pc := s.pc + operandLength }

/-- A transfer of control (R102): the target is written and part (4) does not apply. -/
def transferTo (target : Word) (s : State) : Result := .next { s with pc := target }

/-- `halt` (R103, R222): `run_state` alone changes, and part (4) is skipped. -/
def halt (s : State) : Result := .next { s with runState := .halted }

/-! ## Fatal conditions, and the return from interrupt -/

/-- Entering a fatal condition (R236): `run_state` becomes FAULTED with what the condition records, and every other
piece of state keeps its value; nothing is saved and control goes nowhere. -/
def State.raise (s : State) (condition : Fault) : State := { s with runState := .faulted condition }

/-- The return RTI makes (R203): pull `P` (bits 4 and 5 keep their value), then pull `PC` with nothing added. -/
def State.returnFromInterrupt (s : State) : State :=
  let s1 := { s.afterPull with p := pulledStatus s.pulledByte s.p }
  { s1.afterPullWord with pc := s1.pulledWord }

end Sys2Proof.Machine
end

