-- ==== Sys2Proof/Machine/Operands.lean ====
section
/-! DEFINITION. The Addressing Resolver (R104 to R115): the nine operand forms with the address and the operand byte
each gives, and `resolve` itself, which reads the operand field at `PC`. -/

namespace Sys2Proof.Machine

/-- `zext_16(b)` (spec/00_scope.md section 7). -/
def zext16 (b : Byte) : Word := b.setWidth 16

/-- `sext_16(b)` (spec/00_scope.md section 7): the sign-extended byte, for 16-bit modular sums. -/
def sext16 (b : Byte) : Word := b.signExtend 16

/-- An operand form with its field (R83): the nine modes the resolver accepts. -/
inductive Operand where
  | imm (v : Byte)
  | zp (z : Byte)
  | zpx (z : Byte)
  | zpy (z : Byte)
  | abs (w : Word)
  | abx (w : Word)
  | aby (w : Word)
  | izx (z : Byte)
  | izy (z : Byte)
deriving DecidableEq, Repr

/-- The form's addressing mode (R81). -/
def Operand.mode : Operand → AddressingMode
  | .imm _ => .immediate
  | .zp _ => .zeroPage
  | .zpx _ => .zeroPageX
  | .zpy _ => .zeroPageY
  | .abs _ => .absolute
  | .abx _ => .absoluteX
  | .aby _ => .absoluteY
  | .izx _ => .indirectX
  | .izy _ => .indirectY

/-- The operand length (R101): what part (4) of the step adds to `PC`. -/
def Operand.length : Operand → Word
  | .imm _ | .zp _ | .zpx _ | .zpy _ | .izx _ | .izy _ => 1#16
  | .abs _ | .abx _ | .aby _ => 2#16

/-- A little-endian pointer in page zero (R112, R113): both bytes come from page zero, so 0xFF is followed by 0x00. -/
def State.zeroPagePointer (s : State) (p : Byte) : Word :=
  wordOf (s.read (zext16 p)) (s.read (zext16 (p + 1#8)))

/-- The effective address of an operand form (R105 to R113). `PC` is the address of the first operand byte (R100). -/
def Operand.addr (o : Operand) (s : State) : Word :=
  match o with
  | .imm _ => s.pc
  | .zp z => zext16 z
  | .zpx z => zext16 (z + s.x)
  | .zpy z => zext16 (z + s.y)
  | .abs w => w
  | .abx w => w + zext16 s.x
  | .aby w => w + zext16 s.y
  | .izx z => s.zeroPagePointer (z + s.x)
  | .izy z => s.zeroPagePointer z + zext16 s.y

/-- The operand byte: `MemRead` at the effective address. The byte at `PC` that an immediate form reads is the
instruction's own operand field (R83, log 10). -/
def Operand.value (o : Operand) (s : State) : Byte :=
  match o with
  | .imm v => v
  | o => s.read (o.addr s)

/-- The operand form the resolver sees at `PC`: the mode and the operand field that stands there (R105 to R113). -/
def State.operandAt (s : State) : AddressingMode → Option Operand
  | .immediate => some (.imm (s.read s.pc))
  | .zeroPage => some (.zp (s.read s.pc))
  | .zeroPageX => some (.zpx (s.read s.pc))
  | .zeroPageY => some (.zpy (s.read s.pc))
  | .absolute => some (.abs (s.readWord s.pc))
  | .absoluteX => some (.abx (s.readWord s.pc))
  | .absoluteY => some (.aby (s.readWord s.pc))
  | .indirectX => some (.izx (s.read s.pc))
  | .indirectY => some (.izy (s.read s.pc))
  | .noneAddressing => none

/-- `resolve(mode, pc)` (R104): the effective address, or the fatal condition `InvalidAddressingMode` for
`NoneAddressing` (R114, R232). It changes nothing (R115). -/
def State.resolve (s : State) (mode : AddressingMode) : Except Fault Word :=
  match s.operandAt mode with
  | some o => .ok (o.addr s)
  | none => .error (.invalidAddressingMode mode (s.pc - 1#16))

/-- The shape of every instruction that reads, changes and writes back a memory byte (R150, R151, spec/44): one read
and one write of the effective address, in that order. -/
def modify (f : Byte → Byte → AluOut) (o : Operand) (s : State) : Result :=
  let r := f (o.value s) s.p
  finish o.length { s.write (o.addr s) r.value with p := r.status }

end Sys2Proof.Machine
end

