-- ==== Sys2Proof/Machine/ArithLogic.lean ====
section
/-! DEFINITION. Arithmetic, logic, compare and bit test (spec/43_arith_logic.md). -/

namespace Sys2Proof.Machine

/-- An operation on the accumulator and the operand byte (R160 to R164). -/
def accumulate (f : Byte → Byte → Byte → AluOut) (o : Operand) (s : State) : Result :=
  let r := f s.a (o.value s) s.p
  finish o.length { s with a := r.value, p := r.status }

/-- A comparison of a register with the operand byte (R165 to R167): no register is written. -/
def compareWith (reg : Byte) (o : Operand) (s : State) : Result :=
  finish o.length { s with p := compareStatus reg (o.value s) s.p }

/-- The bit test (R168): no register is written. -/
def testBits (o : Operand) (s : State) : Result :=
  finish o.length { s with p := bitStatus s.a (o.value s) s.p }

/-- `ADC #$nn` (R160). -/
def execAdcImm (imm8 : Byte) (s : State) : Result := accumulate adcCore (.imm imm8) s

/-- `ADC $nn` (R160). -/
def execAdcZp (zp8 : Byte) (s : State) : Result := accumulate adcCore (.zp zp8) s

/-- `ADC $nn,X` (R160). -/
def execAdcZpx (zp8 : Byte) (s : State) : Result := accumulate adcCore (.zpx zp8) s

/-- `ADC $nnnn` (R160). -/
def execAdcAbs (addr16 : Word) (s : State) : Result := accumulate adcCore (.abs addr16) s

/-- `ADC $nnnn,X` (R160). -/
def execAdcAbx (addr16 : Word) (s : State) : Result := accumulate adcCore (.abx addr16) s

/-- `ADC $nnnn,Y` (R160). -/
def execAdcAby (addr16 : Word) (s : State) : Result := accumulate adcCore (.aby addr16) s

/-- `ADC ($nn,X)` (R160). -/
def execAdcIzx (zp8 : Byte) (s : State) : Result := accumulate adcCore (.izx zp8) s

/-- `ADC ($nn),Y` (R160). -/
def execAdcIzy (zp8 : Byte) (s : State) : Result := accumulate adcCore (.izy zp8) s

/-- `SBC #$nn` (R161). -/
def execSbcImm (imm8 : Byte) (s : State) : Result := accumulate sbcCore (.imm imm8) s

/-- `SBC $nn` (R161). -/
def execSbcZp (zp8 : Byte) (s : State) : Result := accumulate sbcCore (.zp zp8) s

/-- `SBC $nn,X` (R161). -/
def execSbcZpx (zp8 : Byte) (s : State) : Result := accumulate sbcCore (.zpx zp8) s

/-- `SBC $nnnn` (R161). -/
def execSbcAbs (addr16 : Word) (s : State) : Result := accumulate sbcCore (.abs addr16) s

/-- `SBC $nnnn,X` (R161). -/
def execSbcAbx (addr16 : Word) (s : State) : Result := accumulate sbcCore (.abx addr16) s

/-- `SBC $nnnn,Y` (R161). -/
def execSbcAby (addr16 : Word) (s : State) : Result := accumulate sbcCore (.aby addr16) s

/-- `SBC ($nn,X)` (R161). -/
def execSbcIzx (zp8 : Byte) (s : State) : Result := accumulate sbcCore (.izx zp8) s

/-- `SBC ($nn),Y` (R161). -/
def execSbcIzy (zp8 : Byte) (s : State) : Result := accumulate sbcCore (.izy zp8) s

/-- `AND #$nn` (R162). -/
def execAndImm (imm8 : Byte) (s : State) : Result := accumulate andCore (.imm imm8) s

/-- `AND $nn` (R162). -/
def execAndZp (zp8 : Byte) (s : State) : Result := accumulate andCore (.zp zp8) s

/-- `AND $nn,X` (R162). -/
def execAndZpx (zp8 : Byte) (s : State) : Result := accumulate andCore (.zpx zp8) s

/-- `AND $nnnn` (R162). -/
def execAndAbs (addr16 : Word) (s : State) : Result := accumulate andCore (.abs addr16) s

/-- `AND $nnnn,X` (R162). -/
def execAndAbx (addr16 : Word) (s : State) : Result := accumulate andCore (.abx addr16) s

/-- `AND $nnnn,Y` (R162). -/
def execAndAby (addr16 : Word) (s : State) : Result := accumulate andCore (.aby addr16) s

/-- `AND ($nn,X)` (R162). -/
def execAndIzx (zp8 : Byte) (s : State) : Result := accumulate andCore (.izx zp8) s

/-- `AND ($nn),Y` (R162). -/
def execAndIzy (zp8 : Byte) (s : State) : Result := accumulate andCore (.izy zp8) s

/-- `ORA #$nn` (R163). -/
def execOraImm (imm8 : Byte) (s : State) : Result := accumulate oraCore (.imm imm8) s

/-- `ORA $nn` (R163). -/
def execOraZp (zp8 : Byte) (s : State) : Result := accumulate oraCore (.zp zp8) s

/-- `ORA $nn,X` (R163). -/
def execOraZpx (zp8 : Byte) (s : State) : Result := accumulate oraCore (.zpx zp8) s

/-- `ORA $nnnn` (R163). -/
def execOraAbs (addr16 : Word) (s : State) : Result := accumulate oraCore (.abs addr16) s

/-- `ORA $nnnn,X` (R163). -/
def execOraAbx (addr16 : Word) (s : State) : Result := accumulate oraCore (.abx addr16) s

/-- `ORA $nnnn,Y` (R163). -/
def execOraAby (addr16 : Word) (s : State) : Result := accumulate oraCore (.aby addr16) s

/-- `ORA ($nn,X)` (R163). -/
def execOraIzx (zp8 : Byte) (s : State) : Result := accumulate oraCore (.izx zp8) s

/-- `ORA ($nn),Y` (R163). -/
def execOraIzy (zp8 : Byte) (s : State) : Result := accumulate oraCore (.izy zp8) s

/-- `EOR #$nn` (R164). -/
def execEorImm (imm8 : Byte) (s : State) : Result := accumulate eorCore (.imm imm8) s

/-- `EOR $nn` (R164). -/
def execEorZp (zp8 : Byte) (s : State) : Result := accumulate eorCore (.zp zp8) s

/-- `EOR $nn,X` (R164). -/
def execEorZpx (zp8 : Byte) (s : State) : Result := accumulate eorCore (.zpx zp8) s

/-- `EOR $nnnn` (R164). -/
def execEorAbs (addr16 : Word) (s : State) : Result := accumulate eorCore (.abs addr16) s

/-- `EOR $nnnn,X` (R164). -/
def execEorAbx (addr16 : Word) (s : State) : Result := accumulate eorCore (.abx addr16) s

/-- `EOR $nnnn,Y` (R164). -/
def execEorAby (addr16 : Word) (s : State) : Result := accumulate eorCore (.aby addr16) s

/-- `EOR ($nn,X)` (R164). -/
def execEorIzx (zp8 : Byte) (s : State) : Result := accumulate eorCore (.izx zp8) s

/-- `EOR ($nn),Y` (R164). -/
def execEorIzy (zp8 : Byte) (s : State) : Result := accumulate eorCore (.izy zp8) s

/-- `CMP #$nn` (R165). -/
def execCmpImm (imm8 : Byte) (s : State) : Result := compareWith s.a (.imm imm8) s

/-- `CMP $nn` (R165). -/
def execCmpZp (zp8 : Byte) (s : State) : Result := compareWith s.a (.zp zp8) s

/-- `CMP $nn,X` (R165). -/
def execCmpZpx (zp8 : Byte) (s : State) : Result := compareWith s.a (.zpx zp8) s

/-- `CMP $nnnn` (R165). -/
def execCmpAbs (addr16 : Word) (s : State) : Result := compareWith s.a (.abs addr16) s

/-- `CMP $nnnn,X` (R165). -/
def execCmpAbx (addr16 : Word) (s : State) : Result := compareWith s.a (.abx addr16) s

/-- `CMP $nnnn,Y` (R165). -/
def execCmpAby (addr16 : Word) (s : State) : Result := compareWith s.a (.aby addr16) s

/-- `CMP ($nn,X)` (R165). -/
def execCmpIzx (zp8 : Byte) (s : State) : Result := compareWith s.a (.izx zp8) s

/-- `CMP ($nn),Y` (R165). -/
def execCmpIzy (zp8 : Byte) (s : State) : Result := compareWith s.a (.izy zp8) s

/-- `CPX #$nn` (R166). -/
def execCpxImm (imm8 : Byte) (s : State) : Result := compareWith s.x (.imm imm8) s

/-- `CPX $nn` (R166). -/
def execCpxZp (zp8 : Byte) (s : State) : Result := compareWith s.x (.zp zp8) s

/-- `CPX $nnnn` (R166). -/
def execCpxAbs (addr16 : Word) (s : State) : Result := compareWith s.x (.abs addr16) s

/-- `CPY #$nn` (R167). -/
def execCpyImm (imm8 : Byte) (s : State) : Result := compareWith s.y (.imm imm8) s

/-- `CPY $nn` (R167). -/
def execCpyZp (zp8 : Byte) (s : State) : Result := compareWith s.y (.zp zp8) s

/-- `CPY $nnnn` (R167). -/
def execCpyAbs (addr16 : Word) (s : State) : Result := compareWith s.y (.abs addr16) s

/-- `BIT $nn` (R168). -/
def execBitZp (zp8 : Byte) (s : State) : Result := testBits (.zp zp8) s

/-- `BIT $nnnn` (R168). -/
def execBitAbs (addr16 : Word) (s : State) : Result := testBits (.abs addr16) s

end Sys2Proof.Machine
end

