-- ==== Sys2Proof/Machine/Control.lean ====
section
/-! DEFINITION. Control transfer (spec/45_control_transfer.md). No target is checked (R204). On entry `PC` is the first operand byte. -/

namespace Sys2Proof.Machine

/-- The common rule of the conditional branches (R190): `PC` on entry is the offset byte's address, so the target is
relative to the address after the branch. The offset is the instruction's own field (log 10). -/
def branch (holds : Bool) (rel8 : Byte) (s : State) : Result :=
  if holds then transferTo (s.pc + 1#16 + sext16 rel8) s else finish 1#16 s

/-- The address of the high target byte of an indirect jump (R200): the pointer plus one within the same page. -/
def samePageNext (ptr : Word) : Word := (ptr &&& 0xFF00#16) ||| ((ptr + 1#16) &&& 0x00FF#16)

/-- `BCC $nnnn` (R191). -/
def execBccRel (rel8 : Byte) (s : State) : Result := branch (!flag s.p bitC) rel8 s

/-- `BCS $nnnn` (R192). -/
def execBcsRel (rel8 : Byte) (s : State) : Result := branch (flag s.p bitC) rel8 s

/-- `BEQ $nnnn` (R193). -/
def execBeqRel (rel8 : Byte) (s : State) : Result := branch (flag s.p bitZ) rel8 s

/-- `BMI $nnnn` (R194). -/
def execBmiRel (rel8 : Byte) (s : State) : Result := branch (flag s.p bitN) rel8 s

/-- `BNE $nnnn` (R195). -/
def execBneRel (rel8 : Byte) (s : State) : Result := branch (!flag s.p bitZ) rel8 s

/-- `BPL $nnnn` (R196). -/
def execBplRel (rel8 : Byte) (s : State) : Result := branch (!flag s.p bitN) rel8 s

/-- `BVC $nnnn` (R197). -/
def execBvcRel (rel8 : Byte) (s : State) : Result := branch (!flag s.p bitV) rel8 s

/-- `BVS $nnnn` (R198). -/
def execBvsRel (rel8 : Byte) (s : State) : Result := branch (flag s.p bitV) rel8 s

/-- `JMP $nnnn` (R199). -/
def execJmpAbs (addr16 : Word) (s : State) : Result := transferTo addr16 s

/-- `JMP ($nnnn)` (R200). -/
def execJmpInd (addr16 : Word) (s : State) : Result := transferTo (wordOf (s.read addr16) (s.read (samePageNext addr16))) s

/-- `JSR $nnnn` (R201). -/
def execJsrAbs (addr16 : Word) (s : State) : Result := transferTo addr16 (s.pushWord (s.pc + 1#16))

/-- `RTS` (R202). -/
def execRts (s : State) : Result := transferTo (s.pulledWord + 1#16) s.afterPullWord

/-- `RTI` (R203). -/
def execRti (s : State) : Result := .next s.returnFromInterrupt

end Sys2Proof.Machine
end

