-- ==== Sys2Proof/Machine/LoadStore.lean ====
section
/-! DEFINITION. Load and store (spec/41_load_store.md). On entry `PC` is the first operand byte (R100). -/

namespace Sys2Proof.Machine

/-- Load the accumulator (R130): read the operand byte, recompute zero and negative. -/
def loadA (o : Operand) (s : State) : Result :=
  finish o.length { s with a := o.value s, p := setZN s.p (o.value s) }

/-- Load `X` (R132). -/
def loadX (o : Operand) (s : State) : Result :=
  finish o.length { s with x := o.value s, p := setZN s.p (o.value s) }

/-- Load `Y` (R133). -/
def loadY (o : Operand) (s : State) : Result :=
  finish o.length { s with y := o.value s, p := setZN s.p (o.value s) }

/-- Store a register (R131, R134, R135): one write to the effective address, no flag. -/
def store (o : Operand) (v : Byte) (s : State) : Result := finish o.length (s.write (o.addr s) v)

/-- `LDA #$nn` (R130). -/
def execLdaImm (imm8 : Byte) (s : State) : Result := loadA (.imm imm8) s

/-- `LDA $nn` (R130). -/
def execLdaZp (zp8 : Byte) (s : State) : Result := loadA (.zp zp8) s

/-- `LDA $nn,X` (R130). -/
def execLdaZpx (zp8 : Byte) (s : State) : Result := loadA (.zpx zp8) s

/-- `LDA $nnnn` (R130). -/
def execLdaAbs (addr16 : Word) (s : State) : Result := loadA (.abs addr16) s

/-- `LDA $nnnn,X` (R130). -/
def execLdaAbx (addr16 : Word) (s : State) : Result := loadA (.abx addr16) s

/-- `LDA $nnnn,Y` (R130). -/
def execLdaAby (addr16 : Word) (s : State) : Result := loadA (.aby addr16) s

/-- `LDA ($nn,X)` (R130). -/
def execLdaIzx (zp8 : Byte) (s : State) : Result := loadA (.izx zp8) s

/-- `LDA ($nn),Y` (R130). -/
def execLdaIzy (zp8 : Byte) (s : State) : Result := loadA (.izy zp8) s

/-- `STA $nn` (R131). -/
def execStaZp (zp8 : Byte) (s : State) : Result := store (.zp zp8) s.a s

/-- `STA $nn,X` (R131). -/
def execStaZpx (zp8 : Byte) (s : State) : Result := store (.zpx zp8) s.a s

/-- `STA $nnnn` (R131). -/
def execStaAbs (addr16 : Word) (s : State) : Result := store (.abs addr16) s.a s

/-- `STA $nnnn,X` (R131). -/
def execStaAbx (addr16 : Word) (s : State) : Result := store (.abx addr16) s.a s

/-- `STA $nnnn,Y` (R131). -/
def execStaAby (addr16 : Word) (s : State) : Result := store (.aby addr16) s.a s

/-- `STA ($nn,X)` (R131). -/
def execStaIzx (zp8 : Byte) (s : State) : Result := store (.izx zp8) s.a s

/-- `STA ($nn),Y` (R131). -/
def execStaIzy (zp8 : Byte) (s : State) : Result := store (.izy zp8) s.a s

/-- `LDX #$nn` (R132). -/
def execLdxImm (imm8 : Byte) (s : State) : Result := loadX (.imm imm8) s

/-- `LDX $nn` (R132). -/
def execLdxZp (zp8 : Byte) (s : State) : Result := loadX (.zp zp8) s

/-- `LDX $nn,Y` (R132). -/
def execLdxZpy (zp8 : Byte) (s : State) : Result := loadX (.zpy zp8) s

/-- `LDX $nnnn` (R132). -/
def execLdxAbs (addr16 : Word) (s : State) : Result := loadX (.abs addr16) s

/-- `LDX $nnnn,Y` (R132). -/
def execLdxAby (addr16 : Word) (s : State) : Result := loadX (.aby addr16) s

/-- `LDY #$nn` (R133). -/
def execLdyImm (imm8 : Byte) (s : State) : Result := loadY (.imm imm8) s

/-- `LDY $nn` (R133). -/
def execLdyZp (zp8 : Byte) (s : State) : Result := loadY (.zp zp8) s

/-- `LDY $nn,X` (R133). -/
def execLdyZpx (zp8 : Byte) (s : State) : Result := loadY (.zpx zp8) s

/-- `LDY $nnnn` (R133). -/
def execLdyAbs (addr16 : Word) (s : State) : Result := loadY (.abs addr16) s

/-- `LDY $nnnn,X` (R133). -/
def execLdyAbx (addr16 : Word) (s : State) : Result := loadY (.abx addr16) s

/-- `STX $nn` (R134). -/
def execStxZp (zp8 : Byte) (s : State) : Result := store (.zp zp8) s.x s

/-- `STX $nn,Y` (R134). -/
def execStxZpy (zp8 : Byte) (s : State) : Result := store (.zpy zp8) s.x s

/-- `STX $nnnn` (R134). -/
def execStxAbs (addr16 : Word) (s : State) : Result := store (.abs addr16) s.x s

/-- `STY $nn` (R135). -/
def execStyZp (zp8 : Byte) (s : State) : Result := store (.zp zp8) s.y s

/-- `STY $nn,X` (R135). -/
def execStyZpx (zp8 : Byte) (s : State) : Result := store (.zpx zp8) s.y s

/-- `STY $nnnn` (R135). -/
def execStyAbs (addr16 : Word) (s : State) : Result := store (.abs addr16) s.y s

end Sys2Proof.Machine
end

