-- ==== Sys2Proof/Machine/Shift.lean ====
section
/-! DEFINITION. Shifts and rotates (spec/44_shift_rotate.md). -/

namespace Sys2Proof.Machine

/-- The accumulator form of a shift (spec/44, format `ACC`): no memory access. -/
def shiftA (f : Byte → Byte → AluOut) (s : State) : Result :=
  let r := f s.a s.p
  finish 0#16 { s with a := r.value, p := r.status }

/-- `ASL A` (R180). -/
def execAslAcc (s : State) : Result := shiftA aslCore s

/-- `ASL $nn` (R180). -/
def execAslZp (zp8 : Byte) (s : State) : Result := modify aslCore (.zp zp8) s

/-- `ASL $nn,X` (R180). -/
def execAslZpx (zp8 : Byte) (s : State) : Result := modify aslCore (.zpx zp8) s

/-- `ASL $nnnn` (R180). -/
def execAslAbs (addr16 : Word) (s : State) : Result := modify aslCore (.abs addr16) s

/-- `ASL $nnnn,X` (R180). -/
def execAslAbx (addr16 : Word) (s : State) : Result := modify aslCore (.abx addr16) s

/-- `LSR A` (R181). -/
def execLsrAcc (s : State) : Result := shiftA lsrCore s

/-- `LSR $nn` (R181). -/
def execLsrZp (zp8 : Byte) (s : State) : Result := modify lsrCore (.zp zp8) s

/-- `LSR $nn,X` (R181). -/
def execLsrZpx (zp8 : Byte) (s : State) : Result := modify lsrCore (.zpx zp8) s

/-- `LSR $nnnn` (R181). -/
def execLsrAbs (addr16 : Word) (s : State) : Result := modify lsrCore (.abs addr16) s

/-- `LSR $nnnn,X` (R181). -/
def execLsrAbx (addr16 : Word) (s : State) : Result := modify lsrCore (.abx addr16) s

/-- `ROL A` (R182). -/
def execRolAcc (s : State) : Result := shiftA rolCore s

/-- `ROL $nn` (R182). -/
def execRolZp (zp8 : Byte) (s : State) : Result := modify rolCore (.zp zp8) s

/-- `ROL $nn,X` (R182). -/
def execRolZpx (zp8 : Byte) (s : State) : Result := modify rolCore (.zpx zp8) s

/-- `ROL $nnnn` (R182). -/
def execRolAbs (addr16 : Word) (s : State) : Result := modify rolCore (.abs addr16) s

/-- `ROL $nnnn,X` (R182). -/
def execRolAbx (addr16 : Word) (s : State) : Result := modify rolCore (.abx addr16) s

/-- `ROR A` (R183). -/
def execRorAcc (s : State) : Result := shiftA rorCore s

/-- `ROR $nn` (R183). -/
def execRorZp (zp8 : Byte) (s : State) : Result := modify rorCore (.zp zp8) s

/-- `ROR $nn,X` (R183). -/
def execRorZpx (zp8 : Byte) (s : State) : Result := modify rorCore (.zpx zp8) s

/-- `ROR $nnnn` (R183). -/
def execRorAbs (addr16 : Word) (s : State) : Result := modify rorCore (.abs addr16) s

/-- `ROR $nnnn,X` (R183). -/
def execRorAbx (addr16 : Word) (s : State) : Result := modify rorCore (.abx addr16) s

end Sys2Proof.Machine
end

