-- ==== Sys2Proof/Machine/System.lean ====
section
/-! DEFINITION. Stack, flag and system instructions (spec/46_stack_flags_system.md). There is no privileged
instruction (R223, R243). -/

namespace Sys2Proof.Machine

/-- The flag instructions (R117, R214 to R220): one bit of `P`. -/
def writeFlag (k : Nat) (b : Bool) (s : State) : Result := finish 0#16 { s with p := setFlag s.p k b }

/-- `PHA` (R210). -/
def execPha (s : State) : Result := finish 0#16 (s.push s.a)

/-- `PHP` (R211). -/
def execPhp (s : State) : Result := finish 0#16 (s.push (pushedStatus s.p))

/-- `PLA` (R212). -/
def execPla (s : State) : Result := finish 0#16 { s.afterPull with a := s.pulledByte, p := setZN s.p s.pulledByte }

/-- `PLP` (R213). -/
def execPlp (s : State) : Result := finish 0#16 { s.afterPull with p := pulledStatus s.pulledByte s.p }

/-- `CLC` (R214). -/
def execClc (s : State) : Result := writeFlag bitC false s

/-- `CLD` (R215). -/
def execCld (s : State) : Result := writeFlag bitD false s

/-- `CLI` (R216). -/
def execCli (s : State) : Result := writeFlag bitI false s

/-- `CLV` (R217). -/
def execClv (s : State) : Result := writeFlag bitV false s

/-- `SEC` (R218). -/
def execSec (s : State) : Result := writeFlag bitC true s

/-- `SED` (R219). -/
def execSed (s : State) : Result := writeFlag bitD true s

/-- `SEI` (R220). -/
def execSei (s : State) : Result := writeFlag bitI true s

/-- `NOP` (R221). -/
def execNop (s : State) : Result := finish 0#16 s

/-- `BRK` (R222). -/
def execBrk (s : State) : Result := halt s

end Sys2Proof.Machine
end

