-- ==== Sys2Proof/Machine/Transfer.lean ====
section
/-! DEFINITION. Register transfers, increments and decrements (spec/42_transfer_incdec.md). -/

namespace Sys2Proof.Machine

/-- Give `A` a result and its status; a one-byte instruction. -/
def intoA (r : AluOut) (s : State) : Result := finish 0#16 { s with a := r.value, p := r.status }

/-- Give `X` a result and its status; a one-byte instruction. -/
def intoX (r : AluOut) (s : State) : Result := finish 0#16 { s with x := r.value, p := r.status }

/-- Give `Y` a result and its status; a one-byte instruction. -/
def intoY (r : AluOut) (s : State) : Result := finish 0#16 { s with y := r.value, p := r.status }

/-- `TAX` (R140). -/
def execTax (s : State) : Result := intoX (znOut s.p s.a) s

/-- `INX` (R141). -/
def execInx (s : State) : Result := intoX (incCore s.x s.p) s

/-- `TAY` (R142). -/
def execTay (s : State) : Result := intoY (znOut s.p s.a) s

/-- `TXA` (R143). -/
def execTxa (s : State) : Result := intoA (znOut s.p s.x) s

/-- `TYA` (R144). -/
def execTya (s : State) : Result := intoA (znOut s.p s.y) s

/-- `TSX` (R145). -/
def execTsx (s : State) : Result := intoX (znOut s.p s.sp) s

/-- `TXS` (R146). -/
def execTxs (s : State) : Result := finish 0#16 { s with sp := s.x }

/-- `INY` (R147). -/
def execIny (s : State) : Result := intoY (incCore s.y s.p) s

/-- `DEX` (R148). -/
def execDex (s : State) : Result := intoX (decCore s.x s.p) s

/-- `DEY` (R149). -/
def execDey (s : State) : Result := intoY (decCore s.y s.p) s

/-- `INC $nn` (R150). -/
def execIncZp (zp8 : Byte) (s : State) : Result := modify incCore (.zp zp8) s

/-- `INC $nn,X` (R150). -/
def execIncZpx (zp8 : Byte) (s : State) : Result := modify incCore (.zpx zp8) s

/-- `INC $nnnn` (R150). -/
def execIncAbs (addr16 : Word) (s : State) : Result := modify incCore (.abs addr16) s

/-- `INC $nnnn,X` (R150). -/
def execIncAbx (addr16 : Word) (s : State) : Result := modify incCore (.abx addr16) s

/-- `DEC $nn` (R151). -/
def execDecZp (zp8 : Byte) (s : State) : Result := modify decCore (.zp zp8) s

/-- `DEC $nn,X` (R151). -/
def execDecZpx (zp8 : Byte) (s : State) : Result := modify decCore (.zpx zp8) s

/-- `DEC $nnnn` (R151). -/
def execDecAbs (addr16 : Word) (s : State) : Result := modify decCore (.abs addr16) s

/-- `DEC $nnnn,X` (R151). -/
def execDecAbx (addr16 : Word) (s : State) : Result := modify decCore (.abx addr16) s

end Sys2Proof.Machine
end

