-- ==== Sys2Proof/Machine/Dispatch.lean ====
section
/-! DEFINITION. The meaning of every instruction: its routine (spec/41 to spec/46) with part (4) of the step. -/

namespace Sys2Proof.Machine

/-- Runs one instruction. `PC` on entry is the address of the first operand byte, one past the opcode (R100). -/
def exec (i : Instr) (s : State) : Host.Outcome State Fault Refusal :=
  match i with
  | .ldaImm imm8 => Sys2Proof.Machine.execLdaImm imm8 s
  | .ldaZp zp8 => Sys2Proof.Machine.execLdaZp zp8 s
  | .ldaZpx zp8 => Sys2Proof.Machine.execLdaZpx zp8 s
  | .ldaAbs addr16 => Sys2Proof.Machine.execLdaAbs addr16 s
  | .ldaAbx addr16 => Sys2Proof.Machine.execLdaAbx addr16 s
  | .ldaAby addr16 => Sys2Proof.Machine.execLdaAby addr16 s
  | .ldaIzx zp8 => Sys2Proof.Machine.execLdaIzx zp8 s
  | .ldaIzy zp8 => Sys2Proof.Machine.execLdaIzy zp8 s
  | .staZp zp8 => Sys2Proof.Machine.execStaZp zp8 s
  | .staZpx zp8 => Sys2Proof.Machine.execStaZpx zp8 s
  | .staAbs addr16 => Sys2Proof.Machine.execStaAbs addr16 s
  | .staAbx addr16 => Sys2Proof.Machine.execStaAbx addr16 s
  | .staAby addr16 => Sys2Proof.Machine.execStaAby addr16 s
  | .staIzx zp8 => Sys2Proof.Machine.execStaIzx zp8 s
  | .staIzy zp8 => Sys2Proof.Machine.execStaIzy zp8 s
  | .ldxImm imm8 => Sys2Proof.Machine.execLdxImm imm8 s
  | .ldxZp zp8 => Sys2Proof.Machine.execLdxZp zp8 s
  | .ldxZpy zp8 => Sys2Proof.Machine.execLdxZpy zp8 s
  | .ldxAbs addr16 => Sys2Proof.Machine.execLdxAbs addr16 s
  | .ldxAby addr16 => Sys2Proof.Machine.execLdxAby addr16 s
  | .ldyImm imm8 => Sys2Proof.Machine.execLdyImm imm8 s
  | .ldyZp zp8 => Sys2Proof.Machine.execLdyZp zp8 s
  | .ldyZpx zp8 => Sys2Proof.Machine.execLdyZpx zp8 s
  | .ldyAbs addr16 => Sys2Proof.Machine.execLdyAbs addr16 s
  | .ldyAbx addr16 => Sys2Proof.Machine.execLdyAbx addr16 s
  | .stxZp zp8 => Sys2Proof.Machine.execStxZp zp8 s
  | .stxZpy zp8 => Sys2Proof.Machine.execStxZpy zp8 s
  | .stxAbs addr16 => Sys2Proof.Machine.execStxAbs addr16 s
  | .styZp zp8 => Sys2Proof.Machine.execStyZp zp8 s
  | .styZpx zp8 => Sys2Proof.Machine.execStyZpx zp8 s
  | .styAbs addr16 => Sys2Proof.Machine.execStyAbs addr16 s
  | .tax => Sys2Proof.Machine.execTax s
  | .inx => Sys2Proof.Machine.execInx s
  | .tay => Sys2Proof.Machine.execTay s
  | .txa => Sys2Proof.Machine.execTxa s
  | .tya => Sys2Proof.Machine.execTya s
  | .tsx => Sys2Proof.Machine.execTsx s
  | .txs => Sys2Proof.Machine.execTxs s
  | .iny => Sys2Proof.Machine.execIny s
  | .dex => Sys2Proof.Machine.execDex s
  | .dey => Sys2Proof.Machine.execDey s
  | .incZp zp8 => Sys2Proof.Machine.execIncZp zp8 s
  | .incZpx zp8 => Sys2Proof.Machine.execIncZpx zp8 s
  | .incAbs addr16 => Sys2Proof.Machine.execIncAbs addr16 s
  | .incAbx addr16 => Sys2Proof.Machine.execIncAbx addr16 s
  | .decZp zp8 => Sys2Proof.Machine.execDecZp zp8 s
  | .decZpx zp8 => Sys2Proof.Machine.execDecZpx zp8 s
  | .decAbs addr16 => Sys2Proof.Machine.execDecAbs addr16 s
  | .decAbx addr16 => Sys2Proof.Machine.execDecAbx addr16 s
  | .adcImm imm8 => Sys2Proof.Machine.execAdcImm imm8 s
  | .adcZp zp8 => Sys2Proof.Machine.execAdcZp zp8 s
  | .adcZpx zp8 => Sys2Proof.Machine.execAdcZpx zp8 s
  | .adcAbs addr16 => Sys2Proof.Machine.execAdcAbs addr16 s
  | .adcAbx addr16 => Sys2Proof.Machine.execAdcAbx addr16 s
  | .adcAby addr16 => Sys2Proof.Machine.execAdcAby addr16 s
  | .adcIzx zp8 => Sys2Proof.Machine.execAdcIzx zp8 s
  | .adcIzy zp8 => Sys2Proof.Machine.execAdcIzy zp8 s
  | .sbcImm imm8 => Sys2Proof.Machine.execSbcImm imm8 s
  | .sbcZp zp8 => Sys2Proof.Machine.execSbcZp zp8 s
  | .sbcZpx zp8 => Sys2Proof.Machine.execSbcZpx zp8 s
  | .sbcAbs addr16 => Sys2Proof.Machine.execSbcAbs addr16 s
  | .sbcAbx addr16 => Sys2Proof.Machine.execSbcAbx addr16 s
  | .sbcAby addr16 => Sys2Proof.Machine.execSbcAby addr16 s
  | .sbcIzx zp8 => Sys2Proof.Machine.execSbcIzx zp8 s
  | .sbcIzy zp8 => Sys2Proof.Machine.execSbcIzy zp8 s
  | .andImm imm8 => Sys2Proof.Machine.execAndImm imm8 s
  | .andZp zp8 => Sys2Proof.Machine.execAndZp zp8 s
  | .andZpx zp8 => Sys2Proof.Machine.execAndZpx zp8 s
  | .andAbs addr16 => Sys2Proof.Machine.execAndAbs addr16 s
  | .andAbx addr16 => Sys2Proof.Machine.execAndAbx addr16 s
  | .andAby addr16 => Sys2Proof.Machine.execAndAby addr16 s
  | .andIzx zp8 => Sys2Proof.Machine.execAndIzx zp8 s
  | .andIzy zp8 => Sys2Proof.Machine.execAndIzy zp8 s
  | .oraImm imm8 => Sys2Proof.Machine.execOraImm imm8 s
  | .oraZp zp8 => Sys2Proof.Machine.execOraZp zp8 s
  | .oraZpx zp8 => Sys2Proof.Machine.execOraZpx zp8 s
  | .oraAbs addr16 => Sys2Proof.Machine.execOraAbs addr16 s
  | .oraAbx addr16 => Sys2Proof.Machine.execOraAbx addr16 s
  | .oraAby addr16 => Sys2Proof.Machine.execOraAby addr16 s
  | .oraIzx zp8 => Sys2Proof.Machine.execOraIzx zp8 s
  | .oraIzy zp8 => Sys2Proof.Machine.execOraIzy zp8 s
  | .eorImm imm8 => Sys2Proof.Machine.execEorImm imm8 s
  | .eorZp zp8 => Sys2Proof.Machine.execEorZp zp8 s
  | .eorZpx zp8 => Sys2Proof.Machine.execEorZpx zp8 s
  | .eorAbs addr16 => Sys2Proof.Machine.execEorAbs addr16 s
  | .eorAbx addr16 => Sys2Proof.Machine.execEorAbx addr16 s
  | .eorAby addr16 => Sys2Proof.Machine.execEorAby addr16 s
  | .eorIzx zp8 => Sys2Proof.Machine.execEorIzx zp8 s
  | .eorIzy zp8 => Sys2Proof.Machine.execEorIzy zp8 s
  | .cmpImm imm8 => Sys2Proof.Machine.execCmpImm imm8 s
  | .cmpZp zp8 => Sys2Proof.Machine.execCmpZp zp8 s
  | .cmpZpx zp8 => Sys2Proof.Machine.execCmpZpx zp8 s
  | .cmpAbs addr16 => Sys2Proof.Machine.execCmpAbs addr16 s
  | .cmpAbx addr16 => Sys2Proof.Machine.execCmpAbx addr16 s
  | .cmpAby addr16 => Sys2Proof.Machine.execCmpAby addr16 s
  | .cmpIzx zp8 => Sys2Proof.Machine.execCmpIzx zp8 s
  | .cmpIzy zp8 => Sys2Proof.Machine.execCmpIzy zp8 s
  | .cpxImm imm8 => Sys2Proof.Machine.execCpxImm imm8 s
  | .cpxZp zp8 => Sys2Proof.Machine.execCpxZp zp8 s
  | .cpxAbs addr16 => Sys2Proof.Machine.execCpxAbs addr16 s
  | .cpyImm imm8 => Sys2Proof.Machine.execCpyImm imm8 s
  | .cpyZp zp8 => Sys2Proof.Machine.execCpyZp zp8 s
  | .cpyAbs addr16 => Sys2Proof.Machine.execCpyAbs addr16 s
  | .bitZp zp8 => Sys2Proof.Machine.execBitZp zp8 s
  | .bitAbs addr16 => Sys2Proof.Machine.execBitAbs addr16 s
  | .aslAcc => Sys2Proof.Machine.execAslAcc s
  | .aslZp zp8 => Sys2Proof.Machine.execAslZp zp8 s
  | .aslZpx zp8 => Sys2Proof.Machine.execAslZpx zp8 s
  | .aslAbs addr16 => Sys2Proof.Machine.execAslAbs addr16 s
  | .aslAbx addr16 => Sys2Proof.Machine.execAslAbx addr16 s
  | .lsrAcc => Sys2Proof.Machine.execLsrAcc s
  | .lsrZp zp8 => Sys2Proof.Machine.execLsrZp zp8 s
  | .lsrZpx zp8 => Sys2Proof.Machine.execLsrZpx zp8 s
  | .lsrAbs addr16 => Sys2Proof.Machine.execLsrAbs addr16 s
  | .lsrAbx addr16 => Sys2Proof.Machine.execLsrAbx addr16 s
  | .rolAcc => Sys2Proof.Machine.execRolAcc s
  | .rolZp zp8 => Sys2Proof.Machine.execRolZp zp8 s
  | .rolZpx zp8 => Sys2Proof.Machine.execRolZpx zp8 s
  | .rolAbs addr16 => Sys2Proof.Machine.execRolAbs addr16 s
  | .rolAbx addr16 => Sys2Proof.Machine.execRolAbx addr16 s
  | .rorAcc => Sys2Proof.Machine.execRorAcc s
  | .rorZp zp8 => Sys2Proof.Machine.execRorZp zp8 s
  | .rorZpx zp8 => Sys2Proof.Machine.execRorZpx zp8 s
  | .rorAbs addr16 => Sys2Proof.Machine.execRorAbs addr16 s
  | .rorAbx addr16 => Sys2Proof.Machine.execRorAbx addr16 s
  | .bccRel rel8 => Sys2Proof.Machine.execBccRel rel8 s
  | .bcsRel rel8 => Sys2Proof.Machine.execBcsRel rel8 s
  | .beqRel rel8 => Sys2Proof.Machine.execBeqRel rel8 s
  | .bmiRel rel8 => Sys2Proof.Machine.execBmiRel rel8 s
  | .bneRel rel8 => Sys2Proof.Machine.execBneRel rel8 s
  | .bplRel rel8 => Sys2Proof.Machine.execBplRel rel8 s
  | .bvcRel rel8 => Sys2Proof.Machine.execBvcRel rel8 s
  | .bvsRel rel8 => Sys2Proof.Machine.execBvsRel rel8 s
  | .jmpAbs addr16 => Sys2Proof.Machine.execJmpAbs addr16 s
  | .jmpInd addr16 => Sys2Proof.Machine.execJmpInd addr16 s
  | .jsrAbs addr16 => Sys2Proof.Machine.execJsrAbs addr16 s
  | .rts => Sys2Proof.Machine.execRts s
  | .rti => Sys2Proof.Machine.execRti s
  | .pha => Sys2Proof.Machine.execPha s
  | .php => Sys2Proof.Machine.execPhp s
  | .pla => Sys2Proof.Machine.execPla s
  | .plp => Sys2Proof.Machine.execPlp s
  | .clc => Sys2Proof.Machine.execClc s
  | .cld => Sys2Proof.Machine.execCld s
  | .cli => Sys2Proof.Machine.execCli s
  | .clv => Sys2Proof.Machine.execClv s
  | .sec => Sys2Proof.Machine.execSec s
  | .sed => Sys2Proof.Machine.execSed s
  | .sei => Sys2Proof.Machine.execSei s
  | .nop => Sys2Proof.Machine.execNop s
  | .brk => Sys2Proof.Machine.execBrk s

end Sys2Proof.Machine
end

