-- ==== Sys2Proof/Machine/HostOps.lean ====
section
/-! DEFINITION. What the host can do between steps (spec/70 section 1, R64): creation, program load, reset, the start
of a run, and the external picture unit's access to the shim. None of it is an instruction (log 16). -/

namespace Sys2Proof.Machine

/-- The OPEN parameters of creation (R3, R28): any values, with `INIT_LATCH` at most 0x3FFF (R24) and the arrays in
canonical form. -/
structure Creation where
  initA : Byte
  initX : Byte
  initY : Byte
  initP : Byte
  initSP : Byte
  initPC : Word
  initRam : Memory
  initPpuReg : Memory
  initLatch : Word
  initCtrl : Byte
deriving DecidableEq, Repr

/-- What R24 and the arrays' sizes ask of the OPEN parameters. -/
abbrev Creation.wf (c : Creation) : Prop :=
  c.initRam.wf Config.ramSize ∧ c.initPpuReg.wf Config.ppuNregs ∧ c.initLatch.toNat ≤ Config.latchMask.toNat

/-- The parameter values `State.reset` starts from: all zero (log 1, 2, 3). -/
def Creation.zero : Creation :=
  { initA := 0x00#8, initX := 0x00#8, initY := 0x00#8, initP := 0x00#8, initSP := 0x00#8, initPC := 0x0000#16,
    initRam := [], initPpuReg := [], initLatch := 0x0000#16, initCtrl := 0x00#8 }

/-- Creation (R260): ROM all zero (R23), the toggle at "expect high byte" (R25), HALTED (R20). -/
def State.create (c : Creation) : State :=
  { a := c.initA, x := c.initX, y := c.initY, p := c.initP, sp := c.initSP, pc := c.initPC, runState := .halted,
    ram := c.initRam, ppuReg := c.initPpuReg, rom := [], latchHi := highByte c.initLatch,
    latchLo := lowByte c.initLatch, latchExpectHi := true, ctrl := c.initCtrl }

/-- A host request the block turns away, with no state change. -/
inductive HostError where
  /-- `E1` (R235, R262): the image does not fit between `LOAD_ADDR` and the top of ROM; the offered length. -/
  | imageTooLong (length : Nat)
  /-- U6: an `increment` step above 255 is outside the operation's domain (log 13). -/
  | stepTooLarge (step : Nat)
deriving DecidableEq, Repr

/-- Copies an image into an array from an index on, in increasing order (R261). -/
def Memory.copyFrom (m : Memory) (i : Nat) : List Byte → Memory
  | [] => m
  | v :: image => Memory.copyFrom (m.set i v) (i + 1) image

/-- Program load (R261, R262): the copy, then the reset vector through the bus; a too long image is refused. -/
def State.load (s : State) (image : List Byte) : Except HostError State :=
  let off := Config.loadAddr.toNat - Config.romBase
  if image.length > Config.romSize - off then .error (.imageTooLong image.length)
  else
    let s1 := { s with rom := s.rom.copyFrom off image }
    .ok (s1.writeWord Config.resetVector Config.loadAddr)

/-- The reset interface (R263): `A`, `X`, `P` zero, `PC` from the reset vector, nothing else. -/
def State.hostReset (s : State) : State :=
  { s with a := 0x00#8, x := 0x00#8, p := 0x00#8, pc := s.readWord Config.resetVector }

/-- Invoking run (R264): RUNNING, unless the machine is FAULTED, which nothing clears (R237). -/
def State.startRun (s : State) : State :=
  match s.runState with
  | .faulted _ => s
  | _ => { s with runState := .running }

/-- The external picture unit's `increment(step)` (R64, R59), refused above 255 (U6). -/
def State.pictureIncrement (s : State) (step : Nat) : Except HostError State :=
  if step > 255 then .error (.stepTooLarge step) else .ok (s.incrementLatch (BitVec.ofNat 8 step))

/-- What the per-step observer sees (R247): the six registers, read-only. -/
structure Observation where
  a : Byte
  x : Byte
  y : Byte
  p : Byte
  sp : Byte
  pc : Word
deriving DecidableEq, Repr

/-- The observer's view of a state (R247). -/
def State.observe (s : State) : Observation := { a := s.a, x := s.x, y := s.y, p := s.p, sp := s.sp, pc := s.pc }

end Sys2Proof.Machine
end

