-- ==== Sys2Proof/Machine/Run.lean ====
section
/-! DEFINITION. The step (R100) in either profile, the run loop (R123) with and without the observer (R247), and the
placing of one instruction at `PC`. -/

namespace Sys2Proof.Machine

/-- The instruction whose bytes stand at `PC` (R82, R92, R100): the opcode byte is read first, and operand bytes only
for an assigned opcode. -/
def State.fetch (profile : Profile) (s : State) : Option Instr :=
  match dispatch profile (s.read s.pc) with
  | none => none
  | some (.implied i) => some i
  | some (.byte f) => some (f (s.read (s.pc + 1#16)))
  | some (.word f) => some (f (s.readWord (s.pc + 1#16)))

/-- Part (2) of the step (R100): `PC` moves one past the opcode byte. -/
def State.pastOpcode (s : State) : State := { s with pc := s.pc + 1#16 }

/-- The step of a RUNNING machine (R100). A byte without a routine is the fatal condition `F1`, with `PC` one past it
and nothing else touched (R231, R236). -/
def State.runningStep (profile : Profile) (s : State) : Result :=
  match s.fetch profile with
  | some i => exec i s.pastOpcode
  | none => .next (s.pastOpcode.raise (.unimplementedOpcode (s.read s.pc) s.pc))

/-- One step in a profile. A HALTED machine takes no step and keeps all its state (R248); a FAULTED machine is stuck
with its diagnostic (R237). Log 5. -/
def stepIn (profile : Profile) (s : State) : Result :=
  match s.runState with
  | .running => s.runningStep profile
  | .halted => .next s
  | .faulted condition => .fault condition

/-- At most `budget` turns of the run loop (R123): steps while `run_state` is RUNNING. -/
def State.runLoop (profile : Profile) : Nat → State → State
  | 0, s => s
  | n + 1, s =>
    match s.runState with
    | .running =>
      match s.runningStep profile with
      | .next t => State.runLoop profile n t
      | _ => s
    | _ => s

/-- The run interface under a step budget (R264, R123). -/
def State.run (profile : Profile) (budget : Nat) (s : State) : State := s.startRun.runLoop profile budget

/-- The run loop with an observer (R247): what it saw, oldest first, and the state the loop ends in. -/
def State.observedLoop (profile : Profile) : Nat → State → List Observation × State
  | 0, s => ([], s)
  | n + 1, s =>
    match s.runState with
    | .running =>
      match s.runningStep profile with
      | .next t =>
        let r := State.observedLoop profile n t
        (s.observe :: r.1, r.2)
      | _ => ([s.observe], s)
    | _ => ([], s)

/-- Puts a byte into the cell an address selects, with no side effect of a bus write: the loader's way in, not an
instruction's. The unmapped range has no cell. -/
def State.poke (s : State) (addr : Word) (v : Byte) : State :=
  match busDecode addr with
  | .ram i => { s with ram := s.ram.set i v }
  | .ppu r => { s with ppuReg := s.ppuReg.set r v }
  | .rom i => { s with rom := s.rom.set i v }
  | .unmapped => s

/-- The three bytes of a table word at `PC`, on a RUNNING machine (log 4, 18). -/
def State.placeInstruction (s : State) (nbits w : Nat) : State :=
  let v := w % 2 ^ nbits
  let s1 := s.poke s.pc (BitVec.ofNat 8 v)
  let s2 := s1.poke (s.pc + 1#16) (BitVec.ofNat 8 (v / 2 ^ 8))
  let s3 := s2.poke (s.pc + 2#16) (BitVec.ofNat 8 (v / 2 ^ 16))
  { s3 with runState := .running }

end Sys2Proof.Machine
end

