-- ==== Sys2Proof/Machine/Step.lean ====
section
/-! DEFINITION. The step the host runs, in the profile of `Config.isaProfile`, and the placing of one instruction. -/

namespace Sys2Proof.Machine

/-- One step (R100, R123, R237, R248). -/
def step (s : State) : Host.Outcome State Fault Refusal := stepIn Config.isaProfile s

/-- `s` with the instruction of a table word where the next step fetches, and RUNNING (log 4, 18). -/
def State.withFetchWord (s : State) (nbits w : Nat) : State := s.placeInstruction nbits w

end Sys2Proof.Machine
end

