-- ==== Sys2Proof/Machine/Trace.lean ====
section
/-! DEFINITION. The bus accesses one step makes, in order (R68, R115, R190, R201): what a bus analyser beside the block
would list. It is computed beside the meanings and changes nothing; no read has a side effect (R56), so the effect of
a step is that of its writes (log 19). -/

namespace Sys2Proof.Machine

/-- One byte access: the address, and the byte read or written. -/
inductive Access where
  | read (addr : Word) (v : Byte)
  | write (addr : Word) (v : Byte)
deriving DecidableEq, Repr

/-- A read at `addr` in `s`. -/
def State.readAccess (s : State) (addr : Word) : Access := .read addr (s.read addr)

/-- The two reads of a pointer in page zero, low byte first (R112, R113). -/
def State.pointerAccesses (s : State) (p : Byte) : List Access :=
  [s.readAccess (zext16 p), s.readAccess (zext16 (p + 1#8))]

/-- The reads the resolver makes (R115): the operand field at `PC`, low byte first, then the pointer's two bytes. The
immediate form reads nothing; its byte is the data read. -/
def Operand.accesses (o : Operand) (s : State) : List Access :=
  match o with
  | .imm _ => []
  | .zp _ | .zpx _ | .zpy _ => [s.readAccess s.pc]
  | .abs _ | .abx _ | .aby _ => [s.readAccess s.pc, s.readAccess (s.pc + 1#16)]
  | .izx z => s.readAccess s.pc :: s.pointerAccesses (z + s.x)
  | .izy z => s.readAccess s.pc :: s.pointerAccesses z

/-- An instruction that reads its operand byte. -/
def readsOperand (o : Operand) (s : State) : List Access := o.accesses s ++ [s.readAccess (o.addr s)]

/-- An instruction that stores `v`. -/
def storesOperand (v : Byte) (o : Operand) (s : State) : List Access := o.accesses s ++ [.write (o.addr s) v]

/-- A read-modify-write: one read, one write (R68). -/
def modifiesOperand (f : Byte → Byte → AluOut) (o : Operand) (s : State) : List Access :=
  readsOperand o s ++ [.write (o.addr s) (f (s.read (o.addr s)) s.p).value]

/-- The accesses of an instruction whose operand field the resolver reads, or that has an absolute target: JMP and JSR
read the same two operand bytes (R199, R201). The other mnemonics have no such form. -/
def operandAccesses (m : Mnemonic) (o : Operand) (s : State) : List Access :=
  match m with
  | .LDA | .LDX | .LDY | .ADC | .SBC | .AND | .ORA | .EOR | .CMP | .CPX | .CPY | .BIT => readsOperand o s
  | .STA => storesOperand s.a o s
  | .STX => storesOperand s.x o s
  | .STY => storesOperand s.y o s
  | .INC => modifiesOperand incCore o s
  | .DEC => modifiesOperand decCore o s
  | .ASL => modifiesOperand aslCore o s
  | .LSR => modifiesOperand lsrCore o s
  | .ROL => modifiesOperand rolCore o s
  | .ROR => modifiesOperand rorCore o s
  | .JMP => o.accesses s
  | .JSR =>
    o.accesses s ++
      [.write (stackAddr s.sp) (highByte (s.pc + 1#16)), .write (stackAddr (s.sp - 1#8)) (lowByte (s.pc + 1#16))]
  | .TAX | .TAY | .TXA | .TYA | .TSX | .TXS | .INX | .INY | .DEX | .DEY | .BCC | .BCS | .BEQ | .BMI | .BNE | .BPL
  | .BVC | .BVS | .RTS | .RTI | .PHA | .PHP | .PLA | .PLP | .CLC | .CLD | .CLI | .CLV | .SEC | .SED | .SEI | .NOP
  | .BRK => []

/-- The offset byte of a branch: read only when the branch is taken (R190). -/
def branchAccesses (taken : Bool) (s : State) : List Access := if taken then [s.readAccess s.pc] else []

/-- The read of a pull with `SP` at `sp` (R121). -/
def State.pullAccess (s : State) (sp : Byte) : Access := s.readAccess (stackAddr (sp + 1#8))

/-- The accesses of an instruction without a resolver mode (R81): branches, the indirect jump, the stack instructions;
none where the instruction works on registers alone. -/
def impliedAccesses (m : Mnemonic) (s : State) : List Access :=
  match m with
  | .BCC => branchAccesses (!flag s.p bitC) s
  | .BCS => branchAccesses (flag s.p bitC) s
  | .BEQ => branchAccesses (flag s.p bitZ) s
  | .BMI => branchAccesses (flag s.p bitN) s
  | .BNE => branchAccesses (!flag s.p bitZ) s
  | .BPL => branchAccesses (!flag s.p bitN) s
  | .BVC => branchAccesses (!flag s.p bitV) s
  | .BVS => branchAccesses (flag s.p bitV) s
  | .JMP =>
    let ptr := s.readWord s.pc
    [s.readAccess s.pc, s.readAccess (s.pc + 1#16), s.readAccess ptr, s.readAccess (samePageNext ptr)]
  | .RTS => [s.pullAccess s.sp, s.pullAccess (s.sp + 1#8)]
  | .RTI => [s.pullAccess s.sp, s.pullAccess (s.sp + 1#8), s.pullAccess (s.sp + 2#8)]
  | .PHA => [.write (stackAddr s.sp) s.a]
  | .PHP => [.write (stackAddr s.sp) (pushedStatus s.p)]
  | .PLA | .PLP => [s.pullAccess s.sp]
  | .LDA | .LDX | .LDY | .STA | .STX | .STY | .TAX | .TAY | .TXA | .TYA | .TSX | .TXS | .INX | .INY | .DEX | .DEY
  | .INC | .DEC | .ADC | .SBC | .AND | .ORA | .EOR | .CMP | .CPX | .CPY | .BIT | .ASL | .LSR | .ROL | .ROR | .JSR
  | .CLC | .CLD | .CLI | .CLV | .SEC | .SED | .SEI | .NOP | .BRK => []

/-- The accesses of an instruction after its opcode fetch, with `PC` on the first operand byte (R68). -/
def instrAccesses (i : Instr) (s : State) : List Access :=
  match s.operandAt i.format.mode with
  | some o => operandAccesses i.mnemonic o s
  | none => impliedAccesses i.mnemonic s

/-- The accesses of the next step (R68, R231): the opcode fetch, then the instruction's; only the fetch where the byte
has no routine, and none where the machine is not RUNNING. -/
def State.stepAccesses (profile : Profile) (s : State) : List Access :=
  match s.runState with
  | .running =>
    s.readAccess s.pc ::
      match s.fetch profile with
      | some i => instrAccesses i s.pastOpcode
      | none => []
  | _ => []

/-- Makes the accesses of a list, in order: a read changes nothing. -/
def State.perform (s : State) : List Access → State
  | [] => s
  | .read _ _ :: rest => s.perform rest
  | .write addr v :: rest => (s.write addr v).perform rest

end Sys2Proof.Machine
end

