-- ==== Sys2Proof/Safety.lean ====
section
/-! DEFINITION. What claims call a sound state and a safe run. -/

namespace Sys2Proof

open Machine

/-- A sound state: each array in canonical form at its size (R21, R22, R23) and the address latch within 14 bits
(R24). -/
abbrev Machine.State.wf (s : State) : Prop :=
  s.ram.wf Config.ramSize ∧ s.ppuReg.wf Config.ppuNregs ∧ s.rom.wf Config.romSize ∧
    s.getAddress.toNat ≤ Config.latchMask.toNat

/-- Two states agree on everything the bus owns and the shim holds (R21 to R26): arrays, latch, toggle, control. -/
def Machine.State.sameBus (s t : State) : Prop :=
  t.ram = s.ram ∧ t.ppuReg = s.ppuReg ∧ t.rom = s.rom ∧ t.latchHi = s.latchHi ∧ t.latchLo = s.latchLo ∧
    t.latchExpectHi = s.latchExpectHi ∧ t.ctrl = s.ctrl

/-- Two addresses name the same cell (R41 to R46): the same byte of RAM through its four mirrors, the same
picture-unit register through its mirrors, or the same byte of ROM. The unmapped range has no cell. -/
def sameCell (a b : Word) : Bool :=
  (a.toNat < 0x2000 && b.toNat < 0x2000 && a.toNat % 0x800 == b.toNat % 0x800) ||
  (0x2000 ≤ a.toNat && a.toNat < 0x4000 && 0x2000 ≤ b.toNat && b.toNat < 0x4000 && a.toNat % 8 == b.toNat % 8) ||
  (0x8000 ≤ a.toNat && a == b)

/-- The machine is in a fatal condition (R236). -/
def Machine.State.isFaulted (s : State) : Bool :=
  match s.runState with
  | .faulted _ => true
  | _ => false

/-- A safe run: within the budget no fatal condition is met. -/
def SafeRun (profile : Profile) (budget : Nat) (s : State) : Prop :=
  ∀ k, k ≤ budget → (s.runLoop profile k).isFaulted = false

end Sys2Proof
end

