-- ==== Sys2Proof/Certificates/Slice0/Obligations.lean ====
section
/-! DEFINITION. The statements for the provers, each formalising rules of spec/ or a property that follows from them.
Addresses, sums and flags are written out in arithmetic and in bit numbers (R17, D2: C0 Z1 I2 D3 B4 U5 V6 N7, as the
worked examples of the instruction rules have them), not through the model's own flag functions. `exec i s` is entered
with `PC` on the first operand byte (R100), so an instruction at address `a` meets `s.pc = a + 1`. -/

namespace Sys2Proof.Claims

open Machine

/-- An operand form of an instruction: its opcode byte, the instruction, the resolver's form, the operand length. -/
structure Form where
  opcode : Byte
  instr : Instr
  operand : Operand
  n : Nat
deriving DecidableEq, Repr

/-- The form's encoding: the opcode byte, then `n` operand bytes. -/
def Form.encoded (f : Form) : Prop := (encode f.instr).head? = some f.opcode ∧ (encode f.instr).length = f.n + 1

/-- `PC` after part (4) of the step, modulo 65536 (R15, D12). -/
def Form.pcAfter (f : Form) (s : State) : Word := BitVec.ofNat 16 (s.pc.toNat + f.n)

/-- The operand forms of LDA (R130). -/
def formsLDA (b : Byte) (w : Word) : List Form :=
  [⟨0xA9#8, .ldaImm b, .imm b, 1⟩, ⟨0xA5#8, .ldaZp b, .zp b, 1⟩,
   ⟨0xB5#8, .ldaZpx b, .zpx b, 1⟩, ⟨0xAD#8, .ldaAbs w, .abs w, 2⟩,
   ⟨0xBD#8, .ldaAbx w, .abx w, 2⟩, ⟨0xB9#8, .ldaAby w, .aby w, 2⟩,
   ⟨0xA1#8, .ldaIzx b, .izx b, 1⟩, ⟨0xB1#8, .ldaIzy b, .izy b, 1⟩]

/-- The operand forms of STA (R131). -/
def formsSTA (b : Byte) (w : Word) : List Form :=
  [⟨0x85#8, .staZp b, .zp b, 1⟩, ⟨0x95#8, .staZpx b, .zpx b, 1⟩,
   ⟨0x8D#8, .staAbs w, .abs w, 2⟩, ⟨0x9D#8, .staAbx w, .abx w, 2⟩,
   ⟨0x99#8, .staAby w, .aby w, 2⟩, ⟨0x81#8, .staIzx b, .izx b, 1⟩,
   ⟨0x91#8, .staIzy b, .izy b, 1⟩]

/-- The operand forms of LDX (R132). -/
def formsLDX (b : Byte) (w : Word) : List Form :=
  [⟨0xA2#8, .ldxImm b, .imm b, 1⟩, ⟨0xA6#8, .ldxZp b, .zp b, 1⟩,
   ⟨0xB6#8, .ldxZpy b, .zpy b, 1⟩, ⟨0xAE#8, .ldxAbs w, .abs w, 2⟩,
   ⟨0xBE#8, .ldxAby w, .aby w, 2⟩]

/-- The operand forms of LDY (R133). -/
def formsLDY (b : Byte) (w : Word) : List Form :=
  [⟨0xA0#8, .ldyImm b, .imm b, 1⟩, ⟨0xA4#8, .ldyZp b, .zp b, 1⟩,
   ⟨0xB4#8, .ldyZpx b, .zpx b, 1⟩, ⟨0xAC#8, .ldyAbs w, .abs w, 2⟩,
   ⟨0xBC#8, .ldyAbx w, .abx w, 2⟩]

/-- The operand forms of STX (R134). -/
def formsSTX (b : Byte) (w : Word) : List Form :=
  [⟨0x86#8, .stxZp b, .zp b, 1⟩, ⟨0x96#8, .stxZpy b, .zpy b, 1⟩,
   ⟨0x8E#8, .stxAbs w, .abs w, 2⟩]

/-- The operand forms of STY (R135). -/
def formsSTY (b : Byte) (w : Word) : List Form :=
  [⟨0x84#8, .styZp b, .zp b, 1⟩, ⟨0x94#8, .styZpx b, .zpx b, 1⟩,
   ⟨0x8C#8, .styAbs w, .abs w, 2⟩]

/-- The operand forms of INC (R150). -/
def formsINC (b : Byte) (w : Word) : List Form :=
  [⟨0xE6#8, .incZp b, .zp b, 1⟩, ⟨0xF6#8, .incZpx b, .zpx b, 1⟩,
   ⟨0xEE#8, .incAbs w, .abs w, 2⟩, ⟨0xFE#8, .incAbx w, .abx w, 2⟩]

/-- The operand forms of DEC (R151). -/
def formsDEC (b : Byte) (w : Word) : List Form :=
  [⟨0xC6#8, .decZp b, .zp b, 1⟩, ⟨0xD6#8, .decZpx b, .zpx b, 1⟩,
   ⟨0xCE#8, .decAbs w, .abs w, 2⟩, ⟨0xDE#8, .decAbx w, .abx w, 2⟩]

/-- The operand forms of ADC (R160). -/
def formsADC (b : Byte) (w : Word) : List Form :=
  [⟨0x69#8, .adcImm b, .imm b, 1⟩, ⟨0x65#8, .adcZp b, .zp b, 1⟩,
   ⟨0x75#8, .adcZpx b, .zpx b, 1⟩, ⟨0x6D#8, .adcAbs w, .abs w, 2⟩,
   ⟨0x7D#8, .adcAbx w, .abx w, 2⟩, ⟨0x79#8, .adcAby w, .aby w, 2⟩,
   ⟨0x61#8, .adcIzx b, .izx b, 1⟩, ⟨0x71#8, .adcIzy b, .izy b, 1⟩]

/-- The operand forms of SBC (R161). -/
def formsSBC (b : Byte) (w : Word) : List Form :=
  [⟨0xE9#8, .sbcImm b, .imm b, 1⟩, ⟨0xE5#8, .sbcZp b, .zp b, 1⟩,
   ⟨0xF5#8, .sbcZpx b, .zpx b, 1⟩, ⟨0xED#8, .sbcAbs w, .abs w, 2⟩,
   ⟨0xFD#8, .sbcAbx w, .abx w, 2⟩, ⟨0xF9#8, .sbcAby w, .aby w, 2⟩,
   ⟨0xE1#8, .sbcIzx b, .izx b, 1⟩, ⟨0xF1#8, .sbcIzy b, .izy b, 1⟩]

/-- The operand forms of AND (R162). -/
def formsAND (b : Byte) (w : Word) : List Form :=
  [⟨0x29#8, .andImm b, .imm b, 1⟩, ⟨0x25#8, .andZp b, .zp b, 1⟩,
   ⟨0x35#8, .andZpx b, .zpx b, 1⟩, ⟨0x2D#8, .andAbs w, .abs w, 2⟩,
   ⟨0x3D#8, .andAbx w, .abx w, 2⟩, ⟨0x39#8, .andAby w, .aby w, 2⟩,
   ⟨0x21#8, .andIzx b, .izx b, 1⟩, ⟨0x31#8, .andIzy b, .izy b, 1⟩]

/-- The operand forms of ORA (R163). -/
def formsORA (b : Byte) (w : Word) : List Form :=
  [⟨0x09#8, .oraImm b, .imm b, 1⟩, ⟨0x05#8, .oraZp b, .zp b, 1⟩,
   ⟨0x15#8, .oraZpx b, .zpx b, 1⟩, ⟨0x0D#8, .oraAbs w, .abs w, 2⟩,
   ⟨0x1D#8, .oraAbx w, .abx w, 2⟩, ⟨0x19#8, .oraAby w, .aby w, 2⟩,
   ⟨0x01#8, .oraIzx b, .izx b, 1⟩, ⟨0x11#8, .oraIzy b, .izy b, 1⟩]

/-- The operand forms of EOR (R164). -/
def formsEOR (b : Byte) (w : Word) : List Form :=
  [⟨0x49#8, .eorImm b, .imm b, 1⟩, ⟨0x45#8, .eorZp b, .zp b, 1⟩,
   ⟨0x55#8, .eorZpx b, .zpx b, 1⟩, ⟨0x4D#8, .eorAbs w, .abs w, 2⟩,
   ⟨0x5D#8, .eorAbx w, .abx w, 2⟩, ⟨0x59#8, .eorAby w, .aby w, 2⟩,
   ⟨0x41#8, .eorIzx b, .izx b, 1⟩, ⟨0x51#8, .eorIzy b, .izy b, 1⟩]

/-- The operand forms of CMP (R165). -/
def formsCMP (b : Byte) (w : Word) : List Form :=
  [⟨0xC9#8, .cmpImm b, .imm b, 1⟩, ⟨0xC5#8, .cmpZp b, .zp b, 1⟩,
   ⟨0xD5#8, .cmpZpx b, .zpx b, 1⟩, ⟨0xCD#8, .cmpAbs w, .abs w, 2⟩,
   ⟨0xDD#8, .cmpAbx w, .abx w, 2⟩, ⟨0xD9#8, .cmpAby w, .aby w, 2⟩,
   ⟨0xC1#8, .cmpIzx b, .izx b, 1⟩, ⟨0xD1#8, .cmpIzy b, .izy b, 1⟩]

/-- The operand forms of CPX (R166). -/
def formsCPX (b : Byte) (w : Word) : List Form :=
  [⟨0xE0#8, .cpxImm b, .imm b, 1⟩, ⟨0xE4#8, .cpxZp b, .zp b, 1⟩,
   ⟨0xEC#8, .cpxAbs w, .abs w, 2⟩]

/-- The operand forms of CPY (R167). -/
def formsCPY (b : Byte) (w : Word) : List Form :=
  [⟨0xC0#8, .cpyImm b, .imm b, 1⟩, ⟨0xC4#8, .cpyZp b, .zp b, 1⟩,
   ⟨0xCC#8, .cpyAbs w, .abs w, 2⟩]

/-- The operand forms of BIT (R168). -/
def formsBIT (b : Byte) (w : Word) : List Form :=
  [⟨0x24#8, .bitZp b, .zp b, 1⟩, ⟨0x2C#8, .bitAbs w, .abs w, 2⟩]

/-- The operand forms of ASL (R180). -/
def formsASL (b : Byte) (w : Word) : List Form :=
  [⟨0x06#8, .aslZp b, .zp b, 1⟩, ⟨0x16#8, .aslZpx b, .zpx b, 1⟩,
   ⟨0x0E#8, .aslAbs w, .abs w, 2⟩, ⟨0x1E#8, .aslAbx w, .abx w, 2⟩]

/-- The operand forms of LSR (R181). -/
def formsLSR (b : Byte) (w : Word) : List Form :=
  [⟨0x46#8, .lsrZp b, .zp b, 1⟩, ⟨0x56#8, .lsrZpx b, .zpx b, 1⟩,
   ⟨0x4E#8, .lsrAbs w, .abs w, 2⟩, ⟨0x5E#8, .lsrAbx w, .abx w, 2⟩]

/-- The operand forms of ROL (R182). -/
def formsROL (b : Byte) (w : Word) : List Form :=
  [⟨0x26#8, .rolZp b, .zp b, 1⟩, ⟨0x36#8, .rolZpx b, .zpx b, 1⟩,
   ⟨0x2E#8, .rolAbs w, .abs w, 2⟩, ⟨0x3E#8, .rolAbx w, .abx w, 2⟩]

/-- The operand forms of ROR (R183). -/
def formsROR (b : Byte) (w : Word) : List Form :=
  [⟨0x66#8, .rorZp b, .zp b, 1⟩, ⟨0x76#8, .rorZpx b, .zpx b, 1⟩,
   ⟨0x6E#8, .rorAbs w, .abs w, 2⟩, ⟨0x7E#8, .rorAbx w, .abx w, 2⟩]

/-- Every form with an operand the resolver addresses (R81, R86). -/
def allForms (b : Byte) (w : Word) : List Form :=
  formsLDA b w ++ formsSTA b w ++ formsLDX b w ++ formsLDY b w ++ formsSTX b w ++ formsSTY b w ++
  formsINC b w ++ formsDEC b w ++ formsADC b w ++ formsSBC b w ++ formsAND b w ++ formsORA b w ++
  formsEOR b w ++ formsCMP b w ++ formsCPX b w ++ formsCPY b w ++ formsBIT b w ++ formsASL b w ++
  formsLSR b w ++ formsROL b w ++ formsROR b w

/-! ## Flags -/

/-- From status `p` to status `q`, only the bits of `ks` may change. -/
def OnlyBits (ks : List Nat) (p q : Byte) : Prop := ∀ k, k ∉ ks → q.getLsbD k = p.getLsbD k

/-- `set_zn(r)` (R116) from `p` to `q`, with the bits of `ks` left to other clauses. -/
def ZeroNegative (ks : List Nat) (p q r : Byte) : Prop :=
  q.getLsbD 1 = decide (r = 0#8) ∧ q.getLsbD 7 = r.getLsbD 7 ∧ OnlyBits (1 :: 7 :: ks) p q

/-- `P.C` as a number. -/
def carry (s : State) : Nat := if s.p.getLsbD 0 then 1 else 0

/-! ## Frames -/

/-- Every byte of memory reads as before. -/
def SameReads (s t : State) : Prop := ∀ b, t.read b = s.read b

/-- The address lies in the picture-unit window (R41). -/
def inWindow (addr : Word) : Bool := 0x2000 ≤ addr.toNat && addr.toNat < 0x4000

/-- The latch value after `write_address_latch(v)` (R57): one half replaced, then 14 bits kept. -/
def latchAfter (s : State) (v : Byte) : Nat :=
  (if s.latchExpectHi then v.toNat * 256 + s.latchLo.toNat else s.latchHi.toNat * 256 + v.toNat) % 0x4000

/-- What one write of `v` to `addr` leaves (R42, R44, R46, R47): the cell, through every address that names it, reads
`v`; every other address reads as before; the control byte and the latch change only for selectors 0 and 6. The ROM that
can be written, the shadow byte, the selectors and the control mask are the spec's own decisions D7 to D10 (log 8, 9). -/
def StoredAt (s t : State) (addr : Word) (v : Byte) : Prop :=
  (∀ b, t.read b = if sameCell addr b then v else s.read b) ∧
  t.ctrl = (if inWindow addr ∧ addr.toNat % 8 = 0 then v else s.ctrl) ∧
  t.latchExpectHi = (if inWindow addr ∧ addr.toNat % 8 = 6 then !s.latchExpectHi else s.latchExpectHi) ∧
  t.getAddress.toNat = (if inWindow addr ∧ addr.toNat % 8 = 6 then latchAfter s v else s.getAddress.toNat)

/-- The registers other than `P` and `PC`, and `run_state`, are kept. -/
def RegistersKept (s t : State) : Prop :=
  t.a = s.a ∧ t.x = s.x ∧ t.y = s.y ∧ t.sp = s.sp ∧ t.runState = s.runState

/-- What a push leaves apart from `SP` and the RAM: everything the bus owns but the RAM, and the shim. -/
def OnlyRamWritten (s t : State) : Prop :=
  t.ppuReg = s.ppuReg ∧ t.rom = s.rom ∧ t.latchHi = s.latchHi ∧ t.latchLo = s.latchLo ∧
    t.latchExpectHi = s.latchExpectHi ∧ t.ctrl = s.ctrl

/-- The byte `pull()` reads for the `k`-th of several pulls (R121). -/
def pulledAt (s : State) (k : Nat) : Byte := s.read (stackAddr (s.sp + BitVec.ofNat 8 k))

/-- The bytes at `PC`, as many as the longest instruction has. -/
def bytesAt (s : State) : List Byte := [s.read s.pc, s.read (s.pc + 1#16), s.read (s.pc + 2#16)]

/-- The 105 unassigned bytes of the `FULL` profile, as R87 lists them. -/
def unassignedFull : List Byte :=
  [0x02#8, 0x03#8, 0x04#8, 0x07#8, 0x0B#8, 0x0C#8, 0x0F#8, 0x12#8] ++
  [0x13#8, 0x14#8, 0x17#8, 0x1A#8, 0x1B#8, 0x1C#8, 0x1F#8] ++
  [0x22#8, 0x23#8, 0x27#8, 0x2B#8, 0x2F#8, 0x32#8, 0x33#8, 0x34#8] ++
  [0x37#8, 0x3A#8, 0x3B#8, 0x3C#8, 0x3F#8] ++
  [0x42#8, 0x43#8, 0x44#8, 0x47#8, 0x4B#8, 0x4F#8, 0x52#8, 0x53#8] ++
  [0x54#8, 0x57#8, 0x5A#8, 0x5B#8, 0x5C#8, 0x5F#8] ++
  [0x62#8, 0x63#8, 0x64#8, 0x67#8, 0x6B#8, 0x6F#8, 0x72#8, 0x73#8] ++
  [0x74#8, 0x77#8, 0x7A#8, 0x7B#8, 0x7C#8, 0x7F#8] ++
  [0x80#8, 0x82#8, 0x83#8, 0x87#8, 0x89#8, 0x8B#8, 0x8F#8, 0x92#8] ++
  [0x93#8, 0x97#8, 0x9B#8, 0x9C#8, 0x9E#8, 0x9F#8] ++
  [0xA3#8, 0xA7#8, 0xAB#8, 0xAF#8, 0xB2#8, 0xB3#8, 0xB7#8, 0xBB#8] ++
  [0xBF#8] ++
  [0xC2#8, 0xC3#8, 0xC7#8, 0xCB#8, 0xCF#8, 0xD2#8, 0xD3#8, 0xD4#8] ++
  [0xD7#8, 0xDA#8, 0xDB#8, 0xDC#8, 0xDF#8] ++
  [0xE2#8, 0xE3#8, 0xE7#8, 0xEB#8, 0xEF#8, 0xF2#8, 0xF3#8, 0xF4#8] ++
  [0xF7#8, 0xFA#8, 0xFB#8, 0xFC#8, 0xFF#8]

/-! ## Shapes of results -/

/-- The byte `r` goes into a register, zero and negative follow it, and nothing else changes (R130, R132, R133, R162 to
R164). -/
def Gives (f : Form) (s : State) (r : Byte) (put : State → Byte → State) : Prop :=
  f.encoded ∧ ∃ t, exec f.instr s = .next t ∧ ZeroNegative [] s.p t.p r ∧
    t = { put s r with p := t.p, pc := f.pcAfter s } ∧ SameReads s t

/-- Stores (R131, R134, R135). -/
def Stores (f : Form) (s : State) (v : Byte) : Prop :=
  f.encoded ∧ ∃ t, exec f.instr s = .next t ∧ RegistersKept s t ∧ t.p = s.p ∧ t.pc = f.pcAfter s ∧
    StoredAt s t (f.operand.addr s) v

/-- A read, change and write back (R150, R151, spec/44): the byte `r` is stored, `P.C` is `c` where the instruction
writes it, and zero and negative follow `r`. -/
def Modifies (f : Form) (s : State) (r : Byte) (c : Option Bool) : Prop :=
  f.encoded ∧ ∃ t, exec f.instr s = .next t ∧ RegistersKept s t ∧ t.pc = f.pcAfter s ∧
    StoredAt s t (f.operand.addr s) r ∧ t.p.getLsbD 0 = c.getD (s.p.getLsbD 0) ∧ ZeroNegative [0] s.p t.p r

/-- A one-byte instruction that gives a register the byte `r` and sets zero and negative from it. -/
def Results (i : Instr) (opcode : Byte) (s : State) (r : Byte) (put : State → Byte → State) : Prop :=
  encode i = [opcode] ∧ ∃ t, exec i s = .next t ∧ ZeroNegative [] s.p t.p r ∧
    t = { put s r with p := t.p } ∧ SameReads s t

/-- A shift or rotate in all its forms (spec/44): `res` is the result byte and `out` the carry out, of the operand and
the carry in. -/
def Shifts (acc : Instr) (opcode : Byte) (forms : List Form) (s : State) (res : Byte → Nat → Nat)
    (out : Byte → Bool) : Prop :=
  (encode acc = [opcode] ∧ ∃ t, exec acc s = .next t ∧ t.a.toNat = res s.a (carry s) ∧
    t.p.getLsbD 0 = out s.a ∧ ZeroNegative [0] s.p t.p t.a ∧ t = { s with a := t.a, p := t.p } ∧ SameReads s t) ∧
  ∀ f ∈ forms, Modifies f s (BitVec.ofNat 8 (res (f.operand.value s) (carry s))) (some (out (f.operand.value s)))

/-- A comparison (R119, R165 to R167). -/
def Compares (f : Form) (s : State) (reg : Byte) : Prop :=
  f.encoded ∧ ∃ t, exec f.instr s = .next t ∧
    t.p.getLsbD 0 = decide ((f.operand.value s).toNat ≤ reg.toNat) ∧
    t.p.getLsbD 1 = decide (reg = f.operand.value s) ∧
    t.p.getLsbD 7 = decide (128 ≤ (256 + reg.toNat - (f.operand.value s).toNat) % 256) ∧
    OnlyBits [0, 1, 7] s.p t.p ∧ t = { s with p := t.p, pc := f.pcAfter s } ∧ SameReads s t

/-- A conditional branch (R190): `taken` is its condition. -/
def Branches (i : Instr) (opcode rel8 : Byte) (s : State) (taken : Bool) : Prop :=
  encode i = [opcode, rel8] ∧ ∃ t, exec i s = .next t ∧
    (t.pc.toNat : Int) = (if taken then (s.pc.toNat + 1 + rel8.toInt) % 65536 else (s.pc.toNat + 1) % 65536) ∧
    t = { s with pc := t.pc } ∧ SameReads s t

/-- A flag instruction (R117, R214 to R220). -/
def WritesFlag (i : Instr) (opcode : Byte) (s : State) (k : Nat) (b : Bool) : Prop :=
  encode i = [opcode] ∧ ∃ t, exec i s = .next t ∧ t.p.getLsbD k = b ∧ OnlyBits [k] s.p t.p ∧
    t = { s with p := t.p } ∧ SameReads s t

end Sys2Proof.Claims

open Sys2Proof Sys2Proof.Machine Sys2Proof.Claims

/-! ## Encoding -/

/-- Decoding the words of an instruction of the profile gives it back, whatever bytes follow (R80 to R84). The opcode
maps are the spec's own decisions D1 and D27. -/
def Obligations.DecodeInvertsEncode : Prop :=
  ∀ (profile : Profile) (i : Instr) (rest : List Byte), i.wellFormed profile = true →
    decode profile (encode i ++ rest) = .ok (i, rest)

/-- What decodes is an instruction of the profile and stands in the bytes as its own words: no word has two meanings
(R82, R84, R87). The opcode maps are the spec's own decisions D1 and D27. -/
def Obligations.EncodeInvertsDecode : Prop :=
  ∀ (profile : Profile) (bytes : List Byte) (i : Instr) (rest : List Byte),
    decode profile bytes = .ok (i, rest) → i.wellFormed profile = true ∧ encode i ++ rest = bytes

/-- The unassigned bytes (R87): the 105 of the `FULL` profile, and in the `MINIMUM` profile all but the 18 of R85. The
two sets of assigned bytes are the spec's own decisions D1 and D27. -/
def Obligations.UnassignedBytesAreRejected : Prop :=
  ∀ (opcode : Byte) (operand : List Byte),
    (decode .full (opcode :: operand) = .error (.unassignedOpcode opcode) ↔ opcode ∈ unassignedFull) ∧
    (decode .minimum (opcode :: operand) = .error (.unassignedOpcode opcode) ↔ opcode ∉
      [0x00#8, 0xA9#8, 0xA5#8, 0xB5#8, 0xAD#8, 0xBD#8, 0xB9#8, 0xA1#8, 0xB1#8, 0x85#8, 0x95#8, 0x8D#8, 0x9D#8,
       0x99#8, 0x81#8, 0x91#8, 0xAA#8, 0xE8#8])

/-- Words written out from the encodings of the instruction rules decode to the instructions they stand for, in the
profile `step` runs (the model's choice, log 7). The opcode maps are the spec's own decisions D1 and D27. -/
def Obligations.WrittenWordsDecode : Prop :=
  decodeTableWord 16 0x05A9 = some (.ldaImm 0x05#8) ∧ decodeTableWord 24 0x20068D = some (.staAbs 0x2006#16) ∧
  decodeTableWord 8 0xAA = some .tax ∧ decodeTableWord 16 0x2071 = some (.adcIzy 0x20#8) ∧
  decodeTableWord 8 0x6A = some .rorAcc ∧ decodeTableWord 16 0xFBD0 = some (.bneRel 0xFB#8) ∧
  decodeTableWord 24 0x02FF6C = some (.jmpInd 0x02FF#16) ∧ decodeTableWord 24 0x801020 = some (.jsrAbs 0x8010#16) ∧
  decodeTableWord 8 0x00 = some .brk ∧ decodeTableWord 16 0x0089 = none

/-- The opcode byte alone determines the mnemonic, the format and the length, which is 1 plus the format's operand
length (R80, R82). -/
def Obligations.OpcodeDeterminesRecordAndLength : Prop :=
  (∀ i j : Instr, (encode i).head? = (encode j).head? → i.record = j.record) ∧
  (∀ i : Instr, (encode i).length = 1 + i.format.operandLength ∧ 1 ≤ (encode i).length ∧ (encode i).length ≤ 3)

/-- `MINIMUM` is a subset of `FULL` with the same instructions (R4). The two profiles are the spec's own decision D1. -/
def Obligations.MinimumProfileIsPartOfFull : Prop :=
  (∀ (bytes : List Byte) (r : Instr × List Byte), decode .minimum bytes = .ok r → decode .full bytes = .ok r) ∧
  (∀ s : State, (∃ r, decode .minimum (bytesAt s) = .ok r) → stepIn .minimum s = stepIn .full s)

/-! ## The step -/

/-- A RUNNING machine whose bytes at `PC` decode to `i` runs `i`, with `PC` moved one past the opcode byte; the meaning
of `i` adds the operand length or transfers control (R100, R92; the model's reading, log 7, 11). That fetching from the
picture-unit window has no side effect is the spec's own decision D8 (log 9). That `PC` is counted modulo 65536 is the
spec's own decision D12, marked in R15. -/
def Obligations.StepRunsTheDecodedInstruction : Prop :=
  ∀ (s : State) (i : Instr) (rest : List Byte), s.runState = .running →
    decode Config.isaProfile (bytesAt s) = .ok (i, rest) → step s = exec i { s with pc := s.pc + 1#16 }

/-- In either profile the fatal condition of a byte without a routine is a next state (log 6): `run_state` records the
byte and its address, `PC` is one past it, and nothing else has changed (R231, R236). What the entry leaves is the
spec's own decision D16. That fetching from the picture-unit window has no side effect is the spec's own decision D8
(log 9). That `PC` is counted modulo 65536 is the spec's own decision D12, marked in R15. -/
def Obligations.UnassignedOpcodeIsFatal : Prop :=
  ∀ (profile : Profile) (s : State), s.runState = .running →
    decode profile (bytesAt s) = .error (.unassignedOpcode (s.read s.pc)) →
    stepIn profile s =
      .next { s with pc := s.pc + 1#16, runState := .faulted (.unimplementedOpcode (s.read s.pc) s.pc) }

/-- A FAULTED machine takes no step, run returns at once with nothing changed, and reset does not clear it (R237). That
its step answers the recorded fault is the model's reading (log 5). That nothing but a creation leaves FAULTED is the
spec's own decision D16. That reset leaves `run_state` alone is its decision D23. -/
def Obligations.FaultedIsTerminal : Prop :=
  ∀ (profile : Profile) (s : State) (c : Fault) (budget : Nat), s.runState = .faulted c →
    stepIn profile s = .fault c ∧ s.run profile budget = s ∧ s.hostReset.runState = .faulted c

/-- A HALTED machine keeps all its state; run leaves HALTED and goes on at `PC` (R248, R264). That the step of a HALTED
machine answers the same state is the model's reading (log 5). That run goes on at `PC` after a halt is the spec's own
decision D15. That the start of a run sets RUNNING is its decision D23. -/
def Obligations.HaltedKeepsItsState : Prop :=
  ∀ (profile : Profile) (s : State) (budget : Nat), s.runState = .halted →
    stepIn profile s = .next s ∧ s.runLoop profile budget = s ∧ s.startRun = { s with runState := .running }

/-- A RUNNING machine always completes its step; it halts exactly on the byte 0x00, and the only fatal condition it can
meet is the unimplemented opcode at `PC` (R48, R230, R238; log 6). The fatal conditions are the spec's own decision
D16. That the byte 0x00 halts and does nothing more is its decision D15, and that the data-port condition cannot arise
its decision D8 (log 9). -/
def Obligations.RunningStepOutcome : Prop :=
  ∀ (profile : Profile) (s : State), s.runState = .running → ∃ t, stepIn profile s = .next t ∧
    (t.runState = .halted ↔ s.read s.pc = 0x00#8) ∧
    (∀ c, t.runState = .faulted c → c = .unimplementedOpcode (s.read s.pc) s.pc)

/-- Every step keeps the state sound: arrays canonical and in range, the latch within 14 bits (R21 to R24; the
canonical form is the model's choice, log 12). The size of the ROM array is the spec's own decision D26. -/
def Obligations.StepKeepsStateSound : Prop := ∀ s t : State, s.wf → step s = .next t → t.wf

/-- The state right after reset is sound; the values it has where the spec is OPEN are the model's choice (log 1, 2,
3). The size of the ROM array is the spec's own decision D26. -/
def Obligations.ResetStateIsSound : Prop := State.reset.wf

/-- Reset (R29, R263): `A`, `X`, `P` zero, `PC` the little-endian word at 0xFFFC, everything else as it was. That
nothing else changes is the spec's own decision D23. That `Y` and `SP` are among what it leaves is its decision D4. -/
def Obligations.ResetSetsFourRegisters : Prop :=
  ∀ s : State, s.hostReset.a = 0x00#8 ∧ s.hostReset.x = 0x00#8 ∧ s.hostReset.p = 0x00#8 ∧
    s.hostReset.pc.toNat = (s.read 0xFFFD#16).toNat * 256 + (s.read 0xFFFC#16).toNat ∧
    s.hostReset = { s with a := 0x00#8, x := 0x00#8, p := 0x00#8, pc := s.hostReset.pc } ∧ SameReads s s.hostReset

/-- `State.reset` is reset after a creation with every OPEN parameter zero; those zeros are the model's choice
(log 1, 2, 3). -/
def Obligations.ResetStateIsCreationThenReset : Prop :=
  State.reset = (State.create Creation.zero).hostReset ∧ Creation.zero.wf

/-! ## Rules over all instructions -/

/-- No instruction writes bits 4 and 5 of `P` (R19). It is the spec's own decision D19. -/
def Obligations.BreakAndUnusedBitsNeverWritten : Prop :=
  ∀ (i : Instr) (s t : State), exec i s = .next t →
    t.p.getLsbD 4 = s.p.getLsbD 4 ∧ t.p.getLsbD 5 = s.p.getLsbD 5

/-- In the `MINIMUM` profile a step writes no flag but `P.Z` and `P.N` (R18), and neither `Y` nor `SP` (R12, R16). The
profile is the spec's own decision D1. -/
def Obligations.MinimumProfileWritesOnlyZeroAndNegative : Prop :=
  ∀ s t : State, stepIn .minimum s = .next t → OnlyBits [1, 7] s.p t.p ∧ t.y = s.y ∧ t.sp = s.sp

/-- Interrupt-disable and decimal are inert (R240, R277): two states that differ in nothing but one of these two bits
run every instruction but PHP to states that again differ in nothing but that bit. It rests on the spec's own decisions
D17 and D18. -/
def Obligations.InterruptAndDecimalFlagsAreInert : Prop :=
  ∀ (i : Instr) (k : Nat) (s t : State) (q : Byte), i ≠ .php → k = 2 ∨ k = 3 → OnlyBits [k] s.p q →
    exec i s = .next t →
    ∃ u, exec i { s with p := q } = .next u ∧ u = { t with p := u.p } ∧ OnlyBits [k] t.p u.p

/-- An instruction that does not transfer control or halt leaves `PC` past its operand bytes (R101, R102). Which
instructions transfer control is R102, the spec's own decision D14. That `PC` is counted modulo 65536 is the spec's own
decision D12, marked in R15. -/
def Obligations.PcAdvancesByTheOperandLength : Prop :=
  ∀ (i : Instr) (s t : State), exec i s = .next t →
    i.mnemonic ∉ [.BCC, .BCS, .BEQ, .BMI, .BNE, .BPL, .BVC, .BVS, .JMP, .JSR, .RTS, .RTI, .BRK] →
    t.pc.toNat = (s.pc.toNat + i.format.operandLength) % 65536 ∧ t.runState = s.runState

/-- Which instructions write `A`, `X`, `Y` and `SP` (R10, R11, R12, R16): every other leaves the register alone. That
the pushes and pulls move `SP` is the spec's own decision D3. -/
def Obligations.RegisterWriters : Prop :=
  ∀ (i : Instr) (s t : State), exec i s = .next t →
    (i.mnemonic ∉ [.LDA, .ADC, .SBC, .AND, .ORA, .EOR, .PLA, .TXA, .TYA] → i.format ≠ .ACC → t.a = s.a) ∧
    (i.mnemonic ∉ [.LDX, .TAX, .INX, .TSX, .DEX] → t.x = s.x) ∧
    (i.mnemonic ∉ [.LDY, .TAY, .INY, .DEY] → t.y = s.y) ∧
    (i.mnemonic ∉ [.TXS, .PHA, .PHP, .PLA, .PLP, .JSR, .RTS, .RTI] → t.sp = s.sp)

/-- Which instructions set or clear each flag (the table of R17): every other leaves the flag alone (R18). The last two
clauses name the instructions that leave zero and negative alone. The bit numbers of the flags are the spec's own
decision D2. -/
def Obligations.FlagWriters : Prop :=
  ∀ (i : Instr) (s t : State), exec i s = .next t →
    (i.mnemonic ∉ [.ADC, .SBC, .CMP, .CPX, .CPY, .ASL, .LSR, .ROL, .ROR, .CLC, .SEC, .PLP, .RTI] →
      t.p.getLsbD 0 = s.p.getLsbD 0) ∧
    (i.mnemonic ∉ [.SEI, .CLI, .PLP, .RTI] → t.p.getLsbD 2 = s.p.getLsbD 2) ∧
    (i.mnemonic ∉ [.SED, .CLD, .PLP, .RTI] → t.p.getLsbD 3 = s.p.getLsbD 3) ∧
    (i.mnemonic ∉ [.ADC, .SBC, .BIT, .CLV, .PLP, .RTI] → t.p.getLsbD 6 = s.p.getLsbD 6) ∧
    (i.mnemonic ∈ [.STA, .STX, .STY, .TXS, .BCC, .BCS, .BEQ, .BMI, .BNE, .BPL, .BVC, .BVS, .JMP, .JSR, .RTS,
      .PHA, .PHP, .NOP, .BRK] → t.p = s.p) ∧
    (i.mnemonic ∈ [.CLC, .CLD, .CLI, .CLV, .SEC, .SED, .SEI] →
      t.p.getLsbD 1 = s.p.getLsbD 1 ∧ t.p.getLsbD 7 = s.p.getLsbD 7)

/-- Only the stores, the read-modify-write forms, the pushes and JSR change what the bus owns or the shim holds; after
any other instruction every byte reads as before (R56, R68). That a read in the picture-unit window has no side effect
is the spec's own decision D8, marked in R56 (log 9), and that there is no access beyond those an instruction needs its
decision D21, marked in R68. -/
def Obligations.OnlyStoringInstructionsChangeMemory : Prop :=
  ∀ (i : Instr) (s t : State), exec i s = .next t →
    i.mnemonic ∉ [.STA, .STX, .STY, .INC, .DEC, .PHA, .PHP, .JSR] →
    (i.mnemonic ∉ [.ASL, .LSR, .ROL, .ROR] ∨ i.format = .ACC) → s.sameBus t ∧ SameReads s t

/-! ## Memory bus and shim -/

/-- A read returns the value of the most recent write to the same cell, through any mirror address (R65, R42): a write
is seen at every address of its cell and nowhere else. That a cell of the picture-unit window reads back its shadow
byte is the spec's own definition (D8, log 9), and that ROM can be written its decision D7. -/
def Obligations.ReadReturnsTheLatestWrite : Prop :=
  ∀ (s : State) (a b : Word) (v : Byte), (s.write a v).read b = if sameCell a b then v else s.read b

/-- The value a read returns in each region (R42, R43, R45, R47). That the picture-unit window answers with the shadow
byte is the spec's own definition (D8) and the model's reading (log 9). -/
def Obligations.ReadsByRegion : Prop :=
  ∀ (s : State) (a : Word),
    (a.toNat ≤ 0x1FFF → s.read a = s.ram.get (a.toNat % 2048)) ∧
    (0x2000 ≤ a.toNat → a.toNat ≤ 0x3FFF → s.read a = s.ppuReg.get (a.toNat % 8)) ∧
    (0x4000 ≤ a.toNat → a.toNat ≤ 0x7FFF → s.read a = 0x00#8) ∧
    (0x8000 ≤ a.toNat → s.read a = s.rom.get (a.toNat - 0x8000))

/-- What a write does in each region, and that it changes nothing else (R42, R44, R46, R47). The shadow byte is the
spec's own definition (D8, log 9); the selectors 0 and 6 and the control mask 0xFF are parameters the spec fixes by
decision (D9, D10, log 8); the write to ROM is its decision D7. -/
def Obligations.WritesByRegion : Prop :=
  ∀ (s : State) (a : Word) (v : Byte),
    (a.toNat ≤ 0x1FFF → s.write a v = { s with ram := s.ram.set (a.toNat % 2048) v }) ∧
    (0x2000 ≤ a.toNat → a.toNat ≤ 0x3FFF → a.toNat % 8 ≠ 0 → a.toNat % 8 ≠ 6 →
      s.write a v = { s with ppuReg := s.ppuReg.set (a.toNat % 8) v }) ∧
    (0x2000 ≤ a.toNat → a.toNat ≤ 0x3FFF → a.toNat % 8 = 0 →
      s.write a v = { s with ppuReg := s.ppuReg.set 0 v, ctrl := v }) ∧
    (0x2000 ≤ a.toNat → a.toNat ≤ 0x3FFF → a.toNat % 8 = 6 →
      s.write a v = State.writeAddressLatch { s with ppuReg := s.ppuReg.set 6 v } v) ∧
    (0x4000 ≤ a.toNat → a.toNat ≤ 0x7FFF → s.write a v = s) ∧
    (0x8000 ≤ a.toNat → s.write a v = { s with rom := s.rom.set (a.toNat - 0x8000) v })

/-- Word accesses (R50, R51, R52): two byte accesses, low byte first, the second address modulo 65536. That the second
address is modulo 65536 is the spec's own decision D12. -/
def Obligations.WordAccessesAreTwoByteAccesses : Prop :=
  ∀ (s : State) (a v : Word),
    (s.readWord a).toNat =
      (s.read (BitVec.ofNat 16 (a.toNat + 1))).toNat * 256 + (s.read a).toNat ∧
    s.writeWord a v =
      (s.write a (BitVec.ofNat 8 (v.toNat % 256))).write (BitVec.ofNat 16 (a.toNat + 1)) (BitVec.ofNat 8 (v.toNat / 256))

/-- The bus accesses of a step (R55, R56, R65, R68): first reads, the opcode fetch at `PC` before all others, each
giving the byte that stands there; then at most two writes, which made in order leave all that the step leaves on the
bus side. The list itself is the model's own (log 19). Which accesses there are, and their order, is the spec's own
decision D21; the selectors of the shim are D9 (log 8). That a read in the picture-unit window has no side effect is
its decision D8 (log 9). -/
def Obligations.AccessesExplainTheStep : Prop :=
  ∀ (profile : Profile) (s : State), s.runState = .running → ∃ t, stepIn profile s = .next t ∧
    (s.perform (s.stepAccesses profile)).sameBus t ∧
    ∃ reads writes, s.stepAccesses profile = s.readAccess s.pc :: reads ++ writes ∧
      (∀ r ∈ reads, ∃ a, r = s.readAccess a) ∧ (∀ w ∈ writes, ∃ a v, w = .write a v) ∧ writes.length ≤ 2

/-- `write_address_latch` (R57): one half is replaced, the latch is kept within 14 bits, the toggle flips, and nothing
else changes; two writes from "expect high byte" make an address. -/
def Obligations.AddressLatchWrites : Prop :=
  ∀ (s : State) (b c : Byte),
    ((s.writeAddressLatch b).getAddress.toNat = latchAfter s b ∧
      (s.writeAddressLatch b).latchExpectHi = !s.latchExpectHi ∧
      s.writeAddressLatch b =
        { s with latchHi := (s.writeAddressLatch b).latchHi, latchLo := (s.writeAddressLatch b).latchLo,
                 latchExpectHi := !s.latchExpectHi }) ∧
    (s.latchExpectHi = true →
      ((s.writeAddressLatch b).writeAddressLatch c).getAddress.toNat = b.toNat % 64 * 256 + c.toNat ∧
      ((s.writeAddressLatch b).writeAddressLatch c).latchExpectHi = true)

/-- `increment(step)` (R59): the latch advances by the step within its 14 bits, and nothing else changes. The mask to 14
bits is the line R59 marks as the spec's own addition (D11), which the model follows (log 8). -/
def Obligations.LatchIncrement : Prop :=
  ∀ (s : State) (step : Byte),
    (s.incrementLatch step).getAddress.toNat = (s.getAddress.toNat + step.toNat) % 0x4000 ∧
    s.incrementLatch step =
      { s with latchHi := (s.incrementLatch step).latchHi, latchLo := (s.incrementLatch step).latchLo }

/-- `write_control` replaces the control byte, bit 2 of it selects the step 1 or 32, `get_address` is the latch value,
and the host's toggle reset sets the toggle alone (R60, R61, R58, R64). That a step above 255 is refused is the model's
reading (log 13). That all eight bits are kept (mask 0xFF) and that bit 2 selects 32 are parameters the spec fixes by
decision (D10, log 8); the toggle reset as a host operation is its decision D25. -/
def Obligations.ControlByteAndToggle : Prop :=
  ∀ (s : State) (b : Byte),
    s.writeControl b = { s with ctrl := b } ∧
    s.vramAddrIncrement.toNat = (if s.ctrl.toNat / 4 % 2 = 1 then 32 else 1) ∧
    s.getAddress.toNat = s.latchHi.toNat * 256 + s.latchLo.toNat ∧
    s.resetLatchToggle = { s with latchExpectHi := true } ∧
    (∀ step, s.pictureIncrement step =
      if step > 255 then .error (.stepTooLarge step) else .ok (s.incrementLatch (BitVec.ofNat 8 step)))

/-- Sound states with the same registers and shim that read alike at every address are equal: the arrays have one
form (the model's choice, log 12). -/
def Obligations.SoundStatesThatReadAlikeAreEqual : Prop :=
  ∀ s t : State, s.wf → t.wf → SameReads s t → t = { s with ram := t.ram, ppuReg := t.ppuReg, rom := t.rom } → s = t

/-! ## The host's operations -/

/-- Program load (R261, R262): a too long image is refused; otherwise the image stands in ROM from 0x8000 on, the reset
vector is 0x8000, every other byte reads as before, and nothing but ROM changes. The load address 0x8000 is a parameter
the spec fixes by decision (D6, log 8); the refusal of a too long image and the vector written last are its decision
D22. That the vector can be written through the bus is its decision D7, and the size of the ROM array D26. -/
def Obligations.ProgramLoad : Prop :=
  ∀ (s : State) (image : List Byte),
    (32768 < image.length → s.load image = .error (.imageTooLong image.length)) ∧
    (image.length ≤ 32768 → ∃ t, s.load image = .ok t ∧ t = { s with rom := t.rom } ∧
      t.read 0xFFFC#16 = 0x00#8 ∧ t.read 0xFFFD#16 = 0x80#8 ∧
      (∀ (k : Nat) (v : Byte), image[k]? = some v → k ≠ 0x7FFC → k ≠ 0x7FFD →
        t.read (BitVec.ofNat 16 (0x8000 + k)) = v) ∧
      (∀ a : Word, a ≠ 0xFFFC#16 → a ≠ 0xFFFD#16 → (a.toNat < 0x8000 ∨ 0x8000 + image.length ≤ a.toNat) →
        t.read a = s.read a))

/-- The run loop (R123): it stops at the first state that is not RUNNING, and a budget may be spent in parts. -/
def Obligations.RunLoopStopsWhenNotRunning : Prop :=
  ∀ (profile : Profile) (m n : Nat) (s : State),
    s.runLoop profile (m + n) = (s.runLoop profile m).runLoop profile n ∧
    (s.runState = .running → ∃ t, stepIn profile s = .next t ∧ s.runLoop profile (n + 1) = t.runLoop profile n) ∧
    (s.runState ≠ .running → s.runLoop profile n = s)

/-- The observer is inert (R247): an observed run ends as the plain run does, and it saw the registers of each state
about to take a step, in order. The trace is the model's form of it (log 15). That it is called before each step as a
host function is the spec's own decision D24. -/
def Obligations.ObserverDoesNotChangeTheRun : Prop :=
  ∀ (profile : Profile) (n : Nat) (s : State),
    (s.observedLoop profile n).2 = s.runLoop profile n ∧
    ∀ k, k < n → (s.runLoop profile k).runState = .running →
      (s.observedLoop profile n).1[k]? = some (s.runLoop profile k).observe

/-! ## The Addressing Resolver and the Status Flag Unit -/

/-- The nine modes (R105 to R113), in terms of the operand bytes at `PC` and of the pointer bytes in page zero. That
both pointer bytes of `Indirect_Y` come from page zero is the spec's own decision D13; the operand word at 0xFFFF is
D12. That a read in the picture-unit window has no side effect is its decision D8 (log 9). -/
def Obligations.ResolverModes : Prop :=
  ∀ s : State,
    let b := (s.read s.pc).toNat
    let w := (s.read (BitVec.ofNat 16 (s.pc.toNat + 1))).toNat * 256 + b
    let zp := fun n : Nat => (s.read (BitVec.ofNat 16 (n % 256))).toNat
    s.resolve .immediate = .ok s.pc ∧
    s.resolve .zeroPage = .ok (BitVec.ofNat 16 b) ∧
    s.resolve .zeroPageX = .ok (BitVec.ofNat 16 ((b + s.x.toNat) % 256)) ∧
    s.resolve .zeroPageY = .ok (BitVec.ofNat 16 ((b + s.y.toNat) % 256)) ∧
    s.resolve .absolute = .ok (BitVec.ofNat 16 w) ∧
    s.resolve .absoluteX = .ok (BitVec.ofNat 16 (w + s.x.toNat)) ∧
    s.resolve .absoluteY = .ok (BitVec.ofNat 16 (w + s.y.toNat)) ∧
    s.resolve .indirectX = .ok (BitVec.ofNat 16 (zp (b + s.x.toNat + 1) * 256 + zp (b + s.x.toNat))) ∧
    s.resolve .indirectY = .ok (BitVec.ofNat 16 (zp (b + 1) * 256 + zp b + s.y.toNat))

/-- `NoneAddressing` is the fatal condition `InvalidAddressingMode`, no other mode is, and no form that reads an operand
through the resolver has that mode (R114, R232). The opcode address the condition records, `PC` minus one by R100, is the
model's reading (log 14). -/
def Obligations.NoneAddressingIsTheOnlyInvalidMode : Prop :=
  (∀ s : State, s.resolve .noneAddressing = .error (.invalidAddressingMode .noneAddressing (s.pc - 1#16))) ∧
  (∀ (s : State) (m : AddressingMode), m ≠ .noneAddressing → ∃ a, s.resolve m = .ok a) ∧
  (∀ (b : Byte) (w : Word), ∀ f ∈ allForms b w, f.instr.format.mode ≠ .noneAddressing)

/-- The operand a meaning uses is the one the resolver finds in memory (R83, R104): when the bytes at `PC` decode to a
form, the resolver gives the form's address, and the byte there is the form's operand byte (the model's reading, log
10). That `PC` is counted modulo 65536 is the spec's own decision D12, marked in R15. That both pointer bytes of the
indirect Y form come from page zero is its decision D13, marked in R113. That a read in the picture-unit window has no
side effect is its decision D8 (log 9). -/
def Obligations.OperandsAreWhatTheResolverFinds : Prop :=
  ∀ (s : State) (b : Byte) (w : Word), ∀ f ∈ allForms b w, ∀ rest : List Byte,
    decode .full (bytesAt s) = .ok (f.instr, rest) →
    let u : State := { s with pc := s.pc + 1#16 }
    u.resolve f.instr.format.mode = .ok (f.operand.addr u) ∧ u.read (f.operand.addr u) = f.operand.value u

/-- `set_zn` (R116): zero iff the result is zero, negative iff its bit 7 is 1, and no other bit altered. -/
def Obligations.SetZeroAndNegative : Prop := ∀ p r : Byte, ZeroNegative [] p (setZN p r) r

/-! ## Load and store, transfers, increments and decrements -/

/-- LDA, LDX and LDY in every form (R130, R132, R133). That an operand read in the picture-unit window gives the shadow
byte and has no side effect is the spec's own decision D8 (log 9). That `PC` is counted modulo 65536 is the spec's own
decision D12, marked in R15. That both pointer bytes of the indirect Y form come from page zero is its decision D13,
marked in R113. -/
def Obligations.LoadResults : Prop :=
  ∀ (s : State) (b : Byte) (w : Word),
    (∀ f ∈ formsLDA b w, Gives f s (f.operand.value s) fun s r => { s with a := r }) ∧
    (∀ f ∈ formsLDX b w, Gives f s (f.operand.value s) fun s r => { s with x := r }) ∧
    (∀ f ∈ formsLDY b w, Gives f s (f.operand.value s) fun s r => { s with y := r })

/-- STA, STX and STY in every form (R131, R134, R135). The shadow byte and the selectors 0 and 6 of the picture-unit
window, where the stored cell lies there, are the spec's own decisions D8 and D9, and that the control register keeps
all eight bits is D10 (log 8, 9). That a store at 0x8000 to 0xFFFF changes the ROM byte is its decision D7, marked in
R46 (log 8). One write for each store is its decision D21. That `PC` is counted modulo 65536 is the spec's own decision
D12, marked in R15. That both pointer bytes of the indirect Y form come from page zero is its decision D13, marked in
R113. -/
def Obligations.StoreResults : Prop :=
  ∀ (s : State) (b : Byte) (w : Word),
    (∀ f ∈ formsSTA b w, Stores f s s.a) ∧ (∀ f ∈ formsSTX b w, Stores f s s.x) ∧
    (∀ f ∈ formsSTY b w, Stores f s s.y)

/-- TAX, TAY, TXA, TYA, TSX with their flags, and TXS without any (R140, R142 to R146). -/
def Obligations.TransferResults : Prop :=
  ∀ s : State,
    (Results .tax 0xAA#8 s s.a fun s r => { s with x := r }) ∧
    (Results .tay 0xA8#8 s s.a fun s r => { s with y := r }) ∧
    (Results .txa 0x8A#8 s s.x fun s r => { s with a := r }) ∧
    (Results .tya 0x98#8 s s.y fun s r => { s with a := r }) ∧
    (Results .tsx 0xBA#8 s s.sp fun s r => { s with x := r }) ∧
    (encode .txs = [0x9A#8] ∧ exec .txs s = .next { s with sp := s.x })

/-- INX, INY, DEX, DEY (R141, R147, R148, R149): modulo 256, with zero and negative only. -/
def Obligations.RegisterIncrementResults : Prop :=
  ∀ s : State,
    (Results .inx 0xE8#8 s (BitVec.ofNat 8 (s.x.toNat + 1)) fun s r => { s with x := r }) ∧
    (Results .iny 0xC8#8 s (BitVec.ofNat 8 (s.y.toNat + 1)) fun s r => { s with y := r }) ∧
    (Results .dex 0xCA#8 s (BitVec.ofNat 8 (s.x.toNat + 255)) fun s r => { s with x := r }) ∧
    (Results .dey 0x88#8 s (BitVec.ofNat 8 (s.y.toNat + 255)) fun s r => { s with y := r })

/-- INC and DEC in every form (R150, R151). One write for each memory form is the spec's own decision D21. The shadow
byte and the selectors 0 and 6 of the picture-unit window, where the stored cell lies there, are the spec's own
decisions D8 and D9, and that the control register keeps all eight bits is D10 (log 8, 9). That a store at 0x8000 to
0xFFFF changes the ROM byte is its decision D7, marked in R46 (log 8). That `PC` is counted modulo 65536 is the spec's
own decision D12, marked in R15. -/
def Obligations.MemoryIncrementResults : Prop :=
  ∀ (s : State) (b : Byte) (w : Word),
    (∀ f ∈ formsINC b w, Modifies f s (BitVec.ofNat 8 ((f.operand.value s).toNat + 1)) none) ∧
    (∀ f ∈ formsDEC b w, Modifies f s (BitVec.ofNat 8 ((f.operand.value s).toNat + 255)) none)

/-! ## Arithmetic, logic, compare, bit test, shifts -/

/-- ADC in every form (R118, R160): the binary sum with carry, the carry out, and overflow when the operands have one
sign and the result the other. That the sum is binary whatever the decimal flag holds is the spec's own decision D18.
That an operand read in the picture-unit window gives the shadow byte and has no side effect is the spec's own decision
D8 (log 9). That `PC` is counted modulo 65536 is the spec's own decision D12, marked in R15. That both pointer bytes of
the indirect Y form come from page zero is its decision D13, marked in R113. -/
def Obligations.AddWithCarryResult : Prop :=
  ∀ (s : State) (b : Byte) (w : Word), ∀ f ∈ formsADC b w, f.encoded ∧ ∃ t, exec f.instr s = .next t ∧
    let m := f.operand.value s
    let sum := s.a.toNat + m.toNat + carry s
    t.a.toNat = sum % 256 ∧ t.p.getLsbD 0 = decide (255 < sum) ∧
    t.p.getLsbD 6 = decide (s.a.getLsbD 7 = m.getLsbD 7 ∧ t.a.getLsbD 7 ≠ s.a.getLsbD 7) ∧
    ZeroNegative [0, 6] s.p t.p t.a ∧ t = { s with a := t.a, p := t.p, pc := f.pcAfter s } ∧ SameReads s t

/-- SBC in every form (R161): the binary difference with borrow, the carry set when there was no borrow, and overflow
when the signed result is outside -128 to 127. That the difference is binary whatever the decimal flag holds is the
spec's own decision D18. That an operand read in the picture-unit window gives the shadow byte and has no side effect
is the spec's own decision D8 (log 9). That `PC` is counted modulo 65536 is the spec's own decision D12, marked in R15.
That both pointer bytes of the indirect Y form come from page zero is its decision D13, marked in R113. -/
def Obligations.SubtractWithBorrowResult : Prop :=
  ∀ (s : State) (b : Byte) (w : Word), ∀ f ∈ formsSBC b w, f.encoded ∧ ∃ t, exec f.instr s = .next t ∧
    let m := f.operand.value s
    let borrow : Int := 1 - carry s
    let d : Int := s.a.toNat - m.toNat - borrow
    let sd : Int := s.a.toInt - m.toInt - borrow
    (t.a.toNat : Int) = d % 256 ∧ t.p.getLsbD 0 = decide (0 ≤ d) ∧
    t.p.getLsbD 6 = decide (sd < -128 ∨ 127 < sd) ∧
    ZeroNegative [0, 6] s.p t.p t.a ∧ t = { s with a := t.a, p := t.p, pc := f.pcAfter s } ∧ SameReads s t

/-- AND, ORA and EOR in every form (R162, R163, R164). That an operand read in the picture-unit window gives the shadow
byte and has no side effect is the spec's own decision D8 (log 9). That `PC` is counted modulo 65536 is the spec's own
decision D12, marked in R15. That both pointer bytes of the indirect Y form come from page zero is its decision D13,
marked in R113. -/
def Obligations.LogicResults : Prop :=
  ∀ (s : State) (b : Byte) (w : Word),
    (∀ f ∈ formsAND b w, Gives f s (s.a &&& f.operand.value s) fun s r => { s with a := r }) ∧
    (∀ f ∈ formsORA b w, Gives f s (s.a ||| f.operand.value s) fun s r => { s with a := r }) ∧
    (∀ f ∈ formsEOR b w, Gives f s (s.a ^^^ f.operand.value s) fun s r => { s with a := r })

/-- CMP, CPX and CPY in every form (R119, R165, R166, R167). That an operand read in the picture-unit window gives the
shadow byte and has no side effect is the spec's own decision D8 (log 9). That `PC` is counted modulo 65536 is the
spec's own decision D12, marked in R15. That both pointer bytes of the indirect Y form come from page zero is its
decision D13, marked in R113. -/
def Obligations.CompareResults : Prop :=
  ∀ (s : State) (b : Byte) (w : Word),
    (∀ f ∈ formsCMP b w, Compares f s s.a) ∧ (∀ f ∈ formsCPX b w, Compares f s s.x) ∧
    (∀ f ∈ formsCPY b w, Compares f s s.y)

/-- BIT in both forms (R168): zero from the and with `A`, negative and overflow from bits 7 and 6 of the operand. That
an operand read in the picture-unit window gives the shadow byte and has no side effect is the spec's own decision D8
(log 9). That `PC` is counted modulo 65536 is the spec's own decision D12, marked in R15. -/
def Obligations.BitTestResult : Prop :=
  ∀ (s : State) (b : Byte) (w : Word), ∀ f ∈ formsBIT b w, f.encoded ∧ ∃ t, exec f.instr s = .next t ∧
    let m := f.operand.value s
    t.p.getLsbD 1 = decide (s.a &&& m = 0#8) ∧ t.p.getLsbD 7 = m.getLsbD 7 ∧ t.p.getLsbD 6 = m.getLsbD 6 ∧
    OnlyBits [1, 6, 7] s.p t.p ∧ t = { s with p := t.p, pc := f.pcAfter s } ∧ SameReads s t

/-- ASL, LSR, ROL and ROR in every form (R180 to R183). One write for each memory form is the spec's own decision D21.
The shadow byte and the selectors 0 and 6 of the picture-unit window, where the stored cell lies there, are the spec's
own decisions D8 and D9, and that the control register keeps all eight bits is D10 (log 8, 9). That a store at 0x8000
to 0xFFFF changes the ROM byte is its decision D7, marked in R46 (log 8). That `PC` is counted modulo 65536 is the
spec's own decision D12, marked in R15. -/
def Obligations.ShiftResults : Prop :=
  ∀ (s : State) (b : Byte) (w : Word),
    Shifts .aslAcc 0x0A#8 (formsASL b w) s (fun v _ => 2 * v.toNat % 256) (fun v => v.getLsbD 7) ∧
    Shifts .lsrAcc 0x4A#8 (formsLSR b w) s (fun v _ => v.toNat / 2) (fun v => v.getLsbD 0) ∧
    Shifts .rolAcc 0x2A#8 (formsROL b w) s (fun v c => (2 * v.toNat + c) % 256) (fun v => v.getLsbD 7) ∧
    Shifts .rorAcc 0x6A#8 (formsROR b w) s (fun v c => v.toNat / 2 + 128 * c) (fun v => v.getLsbD 0)

/-! ## Control transfer -/

/-- The eight conditional branches (R190 to R198): taken, `PC` is the address after the branch plus the signed offset,
modulo 65536; not taken, the address after the branch; nothing else changes. That the target wraps modulo 65536 is the
spec's own decision D12. -/
def Obligations.BranchResults : Prop :=
  ∀ (s : State) (rel8 : Byte),
    Branches (.bccRel rel8) 0x90#8 rel8 s (s.p.getLsbD 0 == false) ∧
    Branches (.bcsRel rel8) 0xB0#8 rel8 s (s.p.getLsbD 0 == true) ∧
    Branches (.beqRel rel8) 0xF0#8 rel8 s (s.p.getLsbD 1 == true) ∧
    Branches (.bmiRel rel8) 0x30#8 rel8 s (s.p.getLsbD 7 == true) ∧
    Branches (.bneRel rel8) 0xD0#8 rel8 s (s.p.getLsbD 1 == false) ∧
    Branches (.bplRel rel8) 0x10#8 rel8 s (s.p.getLsbD 7 == false) ∧
    Branches (.bvcRel rel8) 0x50#8 rel8 s (s.p.getLsbD 6 == false) ∧
    Branches (.bvsRel rel8) 0x70#8 rel8 s (s.p.getLsbD 6 == true)

/-- JMP absolute and indirect (R199, R200): the high target byte of the indirect form comes from the pointer's own
page. The high byte from the pointer's own page is the spec's own decision D20. That a pointer read in the picture-unit
window gives the shadow byte and has no side effect is its decision D8 (log 9). -/
def Obligations.JumpResults : Prop :=
  ∀ (s : State) (w : Word),
    (encode (.jmpAbs w) = [0x4C#8, lowByte w, highByte w] ∧ exec (.jmpAbs w) s = .next { s with pc := w }) ∧
    (encode (.jmpInd w) = [0x6C#8, lowByte w, highByte w] ∧ ∃ t, exec (.jmpInd w) s = .next t ∧
      t.pc.toNat = (s.read (BitVec.ofNat 16 (w.toNat / 256 * 256 + (w.toNat % 256 + 1) % 256))).toNat * 256 +
        (s.read w).toNat ∧
      t = { s with pc := t.pc } ∧ SameReads s t)

/-- JSR (R201): pushes the address of its last byte, high byte first, and goes to the target. The stack addresses are
the model's `stackAddr`, in page 0x01, a parameter the spec fixes by decision (D3, log 8); both operand bytes read
before the pushes is its decision D21. That `PC` is counted modulo 65536 is the spec's own decision D12, marked in R15. -/
def Obligations.SubroutineCallResult : Prop :=
  ∀ (s : State) (w : Word),
    encode (.jsrAbs w) = [0x20#8, lowByte w, highByte w] ∧ ∃ t, exec (.jsrAbs w) s = .next t ∧
    let ret := (s.pc.toNat + 1) % 65536
    t.pc = w ∧ t.sp = s.sp - 2#8 ∧ t.a = s.a ∧ t.x = s.x ∧ t.y = s.y ∧ t.p = s.p ∧ t.runState = s.runState ∧
    OnlyRamWritten s t ∧
    (∀ b, t.read b =
      if sameCell (stackAddr (s.sp - 1#8)) b then BitVec.ofNat 8 (ret % 256)
      else if sameCell (stackAddr s.sp) b then BitVec.ofNat 8 (ret / 256) else s.read b)

/-- RTS and RTI (R202, R203): RTS adds one to the pulled word; RTI pulls the status first, keeping bits 4 and 5, and
adds nothing. The stack addresses are the model's `stackAddr`, in page 0x01, a parameter the spec fixes by decision
(D3, log 8); that bits 4 and 5 are kept is its decision D19. That `PC` is counted modulo 65536 is the spec's own
decision D12, marked in R15. -/
def Obligations.ReturnResults : Prop :=
  ∀ s : State,
    (encode .rts = [0x60#8] ∧ ∃ t, exec .rts s = .next t ∧
      t.pc.toNat = ((pulledAt s 2).toNat * 256 + (pulledAt s 1).toNat + 1) % 65536 ∧
      t = { s with sp := s.sp + 2#8, pc := t.pc } ∧ SameReads s t) ∧
    (encode .rti = [0x40#8] ∧ ∃ t, exec .rti s = .next t ∧
      t.pc.toNat = (pulledAt s 3).toNat * 256 + (pulledAt s 2).toNat ∧
      (∀ k, t.p.getLsbD k = if k = 4 ∨ k = 5 then s.p.getLsbD k else (pulledAt s 1).getLsbD k) ∧
      t = { s with sp := s.sp + 3#8, p := t.p, pc := t.pc } ∧ SameReads s t)

/-- A subroutine that leaves `SP` and the two return bytes as JSR left them returns to the instruction after the JSR
(R201, R202), whatever else it did: with the JSR at `a`, `s.pc` is `a + 1` and the return is to `a + 3`. The stack page
0x01 is a parameter the spec fixes by decision (D3, log 8). That `PC` is counted modulo 65536 is the spec's own
decision D12, marked in R15. -/
def Obligations.SubroutineReturnsAfterTheCall : Prop :=
  ∀ (s t u : State) (w : Word), exec (.jsrAbs w) s = .next t → u.sp = t.sp →
    pulledAt u 1 = pulledAt t 1 → pulledAt u 2 = pulledAt t 2 →
    ∃ v, exec .rts u = .next v ∧ v.pc = s.pc + 2#16 ∧ v.sp = s.sp

/-! ## Stack, flags, system -/

/-- PHA and PHP (R210, R211): one byte at `0x0100 + SP`, then `SP` one lower; PHP's byte has bits 4 and 5 set. The
stack page 0x01 is a parameter the spec fixes by decision (D3, log 8); the two bits set in PHP's byte are its decision
D19. -/
def Obligations.PushResults : Prop :=
  ∀ s : State,
    (stackAddr s.sp).toNat = 0x0100 + s.sp.toNat ∧
    (encode .pha = [0x48#8] ∧ ∃ t, exec .pha s = .next t ∧
      t = { s with sp := s.sp - 1#8, ram := t.ram } ∧
      ∀ b, t.read b = if sameCell (stackAddr s.sp) b then s.a else s.read b) ∧
    (encode .php = [0x08#8] ∧ ∃ t v, exec .php s = .next t ∧
      (∀ k, k < 8 → v.getLsbD k = if k = 4 ∨ k = 5 then true else s.p.getLsbD k) ∧
      t = { s with sp := s.sp - 1#8, ram := t.ram } ∧
      ∀ b, t.read b = if sameCell (stackAddr s.sp) b then v else s.read b)

/-- PLA and PLP (R212, R213): the byte above `SP`, with `SP` one higher; PLP keeps bits 4 and 5 of `P`. The stack page
0x01 is a parameter the spec fixes by decision (D3, log 8); that PLP keeps bits 4 and 5 is its decision D19. -/
def Obligations.PullResults : Prop :=
  ∀ s : State,
    (Results .pla 0x68#8 s (pulledAt s 1) fun s r => { s with a := r, sp := s.sp + 1#8 }) ∧
    (encode .plp = [0x28#8] ∧ ∃ t, exec .plp s = .next t ∧
      (∀ k, t.p.getLsbD k = if k = 4 ∨ k = 5 then s.p.getLsbD k else (pulledAt s 1).getLsbD k) ∧
      t = { s with sp := s.sp + 1#8, p := t.p } ∧ SameReads s t)

/-- PHP then PLP leaves `P` and `SP` as they were (R213). It rests on the spec's own decisions D3 (the stack page, log
8) and D19 (bits 4 and 5). -/
def Obligations.PushThenPullKeepsStatus : Prop :=
  ∀ s : State, ∃ t u, exec .php s = .next t ∧ exec .plp t = .next u ∧ u.p = s.p ∧ u.sp = s.sp ∧ u.a = s.a

/-- The seven flag instructions (R214 to R220). -/
def Obligations.FlagInstructionResults : Prop :=
  ∀ s : State,
    WritesFlag .clc 0x18#8 s 0 false ∧ WritesFlag .cld 0xD8#8 s 3 false ∧ WritesFlag .cli 0x58#8 s 2 false ∧
    WritesFlag .clv 0xB8#8 s 6 false ∧ WritesFlag .sec 0x38#8 s 0 true ∧ WritesFlag .sed 0xF8#8 s 3 true ∧
    WritesFlag .sei 0x78#8 s 2 true

/-- NOP changes nothing (`PC` has passed its one byte), and BRK halts and changes nothing else (R221, R222). That BRK
halts with `PC` one past it and does nothing else is, beyond the source's word "halt", the spec's own decision D15. -/
def Obligations.NopAndBreakResults : Prop :=
  ∀ s : State,
    (encode .nop = [0xEA#8] ∧ exec .nop s = .next s) ∧
    (encode .brk = [0x00#8] ∧ exec .brk s = .next { s with runState := .halted })
end

