-- ==== Sys2Proof/Laws/Bits.lean ====
section
/-! SUPPORT. Small facts about bytes, words and the status byte: what the byte-order helpers undo, and what each flag
operation does to each bit. -/

namespace Sys2Proof

theorem toNat_wordOf (lo hi : Byte) : (wordOf lo hi).toNat = hi.toNat * 256 + lo.toNat := by
  have := lo.isLt
  have := hi.isLt
  simp only [wordOf, BitVec.toNat_ofNat]
  omega

theorem toNat_lowByte (w : Word) : (lowByte w).toNat = w.toNat % 256 := by
  simp [lowByte]

theorem toNat_highByte (w : Word) : (highByte w).toNat = w.toNat / 256 := by
  have := w.isLt
  simp [highByte, Nat.shiftRight_eq_div_pow]
  omega

@[simp] theorem lowByte_wordOf (lo hi : Byte) : lowByte (wordOf lo hi) = lo := by
  have := lo.isLt
  apply BitVec.eq_of_toNat_eq
  rw [toNat_lowByte, toNat_wordOf]
  omega

@[simp] theorem highByte_wordOf (lo hi : Byte) : highByte (wordOf lo hi) = hi := by
  have := lo.isLt
  apply BitVec.eq_of_toNat_eq
  rw [toNat_highByte, toNat_wordOf]
  omega

@[simp] theorem wordOf_lowByte_highByte (w : Word) : wordOf (lowByte w) (highByte w) = w := by
  apply BitVec.eq_of_toNat_eq
  rw [toNat_wordOf, toNat_lowByte, toNat_highByte]
  omega

namespace Machine

theorem flag_setFlag (p : Byte) (k j : Nat) (b : Bool) (hk : k < 8) :
    flag (setFlag p k b) j = if j = k then b else flag p j := by
  unfold flag setFlag
  by_cases hj : j < 8
  · cases b <;> simp [hj] <;> grind
  · have : j ≠ k := by omega
    simp [this, BitVec.getLsbD_of_ge _ _ (Nat.not_lt.mp hj)]

theorem byte_ext {p q : Byte} (h : ∀ k, flag p k = flag q k) : p = q :=
  BitVec.eq_of_getLsbD_eq fun k _ => h k

/-- `set_zn` bit by bit (R116). -/
theorem flag_setZN (p r : Byte) (j : Nat) :
    flag (setZN p r) j = if j = 7 then r.getLsbD 7 else if j = 1 then r == 0#8 else flag p j := by
  simp [setZN, flag_setFlag, bitN, bitZ]

/-- What a status pull keeps and loads, bit by bit (R213). -/
theorem flag_pulledStatus (pulled p : Byte) (j : Nat) :
    flag (pulledStatus pulled p) j = if j = 4 ∨ j = 5 then flag p j else flag pulled j := by
  unfold flag pulledStatus
  by_cases hj : j < 8
  · interval_cases j <;> simp
  · simp [BitVec.getLsbD_of_ge _ _ (Nat.not_lt.mp hj)]

/-- What PHP pushes, bit by bit (R211). -/
theorem flag_pushedStatus (p : Byte) (j : Nat) :
    flag (pushedStatus p) j = if j = 4 ∨ j = 5 then true else flag p j := by
  unfold flag pushedStatus
  by_cases hj : j < 8
  · interval_cases j <;> simp
  · have h4 : ¬(j = 4 ∨ j = 5) := by omega
    simp [h4, BitVec.getLsbD_of_ge _ _ (Nat.not_lt.mp hj)]

/-- The flags `compare` writes (R119). -/
theorem flag_compareStatus (reg m p : Byte) (j : Nat) :
    flag (compareStatus reg m p) j =
      if j = 7 then (reg - m).getLsbD 7 else if j = 1 then reg - m == 0#8
      else if j = 0 then decide (m.toNat ≤ reg.toNat) else flag p j := by
  simp [compareStatus, flag_setZN, flag_setFlag, bitC]

/-- The flags BIT writes (R168). -/
theorem flag_bitStatus (a m p : Byte) (j : Nat) :
    flag (bitStatus a m p) j =
      if j = 6 then m.getLsbD 6 else if j = 7 then m.getLsbD 7 else if j = 1 then (a &&& m) == 0#8
      else flag p j := by
  simp [bitStatus, flag_setFlag, bitZ, bitN, bitV]

/-- The flags of a shift (spec/44). -/
theorem flag_shiftOut (p r : Byte) (c : Bool) (j : Nat) :
    flag (shiftOut p r c).status j =
      if j = 7 then r.getLsbD 7 else if j = 1 then r == 0#8 else if j = 0 then c else flag p j := by
  simp [shiftOut, flag_setZN, flag_setFlag, bitC]

/-- The carry in as a number (R118). -/
theorem toNat_flag (p : Byte) (k : Nat) : (flag p k).toNat = if p.getLsbD k then 1 else 0 := by
  unfold flag; cases p.getLsbD k <;> rfl

theorem toNat_adcCore_value (a m p : Byte) :
    (adcCore a m p).value.toNat = (a.toNat + m.toNat + (flag p bitC).toNat) % 256 := by
  simp [adcCore]

/-- The overflow expression of R118, on sign bits. -/
theorem overflow_eq (a m r : Byte) :
    (((a ^^^ r) &&& (m ^^^ r) &&& 0x80#8) != 0#8) =
      decide (a.getLsbD 7 = m.getLsbD 7 ∧ r.getLsbD 7 ≠ a.getLsbD 7) := by
  have key : ∀ x : Byte, (x &&& 0x80#8 != 0#8) = x.getLsbD 7 := by decide
  rw [key]
  simp only [BitVec.getLsbD_and, BitVec.getLsbD_xor]
  cases a.getLsbD 7 <;> cases m.getLsbD 7 <;> cases r.getLsbD 7 <;> rfl

/-- The flags ADC writes (R118). -/
theorem flag_adcCore (a m p : Byte) (j : Nat) :
    flag (adcCore a m p).status j =
      if j = 7 then (adcCore a m p).value.getLsbD 7 else if j = 1 then (adcCore a m p).value == 0#8
      else if j = 6 then decide (a.getLsbD 7 = m.getLsbD 7 ∧ (adcCore a m p).value.getLsbD 7 ≠ a.getLsbD 7)
      else if j = 0 then decide (255 < a.toNat + m.toNat + (flag p bitC).toNat) else flag p j := by
  simp only [adcCore, flag_setZN, overflow_eq, flag_setFlag _ _ _ _ (show bitV < 8 by decide),
    flag_setFlag _ _ _ _ (show bitC < 8 by decide)]
  rfl

theorem toNat_xor_ff (m : Byte) : (m ^^^ 0xFF#8).toNat = 255 - m.toNat := by
  revert m; decide

/-- The byte SBC gives, as the difference with borrow (R161). -/
theorem toNat_sbcCore_value (a m p : Byte) :
    ((sbcCore a m p).value.toNat : Int) = ((a.toNat : Int) - m.toNat - (1 - (flag p bitC).toNat)) % 256 := by
  have := m.isLt
  rw [sbcCore, toNat_adcCore_value, toNat_xor_ff]
  omega

/-- The flags SBC writes (R161): carry when there was no borrow, overflow when the signed result does not fit. -/
theorem flag_sbcCore (a m p : Byte) (j : Nat) :
    flag (sbcCore a m p).status j =
      if j = 7 then (sbcCore a m p).value.getLsbD 7 else if j = 1 then (sbcCore a m p).value == 0#8
      else if j = 6 then decide (a.toInt - m.toInt - (1 - (flag p bitC).toNat) < -128 ∨
        127 < a.toInt - m.toInt - (1 - (flag p bitC).toNat))
      else if j = 0 then decide (m.toNat + (1 - (flag p bitC).toNat) ≤ a.toNat) else flag p j := by
  have hm := m.isLt
  have ha := a.isLt
  have hv := toNat_sbcCore_value a m p
  have sign : ∀ x : Byte, x.getLsbD 7 = decide (128 ≤ x.toNat) := by decide
  have value : ∀ x : Byte, x.toInt = if x.toNat < 128 then (x.toNat : Int) else x.toNat - 256 := by decide
  have hc : (flag p bitC).toNat ≤ 1 := by cases flag p bitC <;> decide
  rw [show flag (sbcCore a m p).status j = flag (adcCore a (m ^^^ 0xFF#8) p).status j from rfl, flag_adcCore,
    show adcCore a (m ^^^ 0xFF#8) p = sbcCore a m p from rfl, toNat_xor_ff]
  congr 3
  · rw [sign a, sign (m ^^^ 0xFF#8), sign (sbcCore a m p).value, toNat_xor_ff, decide_eq_decide, value, value]
    generalize (sbcCore a m p).value.toNat = v at hv
    generalize (flag p bitC).toNat = c at hv hc
    simp only [decide_eq_decide, ne_eq]
    split <;> split <;> omega
  · congr 1
    rw [decide_eq_decide]
    omega

/-! The result byte of each shift (R180 to R183). -/

theorem toNat_aslCore_value (v p : Byte) : (aslCore v p).value.toNat = 2 * v.toNat % 256 := by
  simp [aslCore, shiftOut, Nat.shiftLeft_eq, Nat.mul_comm]

theorem toNat_lsrCore_value (v p : Byte) : (lsrCore v p).value.toNat = v.toNat / 2 := by
  simp [lsrCore, shiftOut, Nat.shiftRight_eq_div_pow]

theorem toNat_rolCore_value (v p : Byte) :
    (rolCore v p).value.toNat = (2 * v.toNat + (flag p bitC).toNat) % 256 := by
  simp only [rolCore, shiftOut]
  generalize flag p bitC = c
  revert v c; decide

theorem toNat_rorCore_value (v p : Byte) :
    (rorCore v p).value.toNat = v.toNat / 2 + 128 * (flag p bitC).toNat := by
  simp only [rorCore, shiftOut]
  generalize flag p bitC = c
  revert v c; decide

end Machine

end Sys2Proof
end

