-- ==== Sys2Proof/Laws/Memory.lean ====
section
/-! SUPPORT. The byte arrays: a read after a write, the canonical form is kept, and arrays that read alike are equal. -/

namespace Sys2Proof.Machine

theorem Memory.get_remove (m : Memory) (i j : Nat) :
    (m.remove i).get j = if j = i then Config.unlistedByte else m.get j := by
  induction m with
  | nil => simp [Memory.remove, Memory.get]
  | cons c m ih =>
    simp only [Memory.remove, List.filter_cons] at ih ⊢
    by_cases h : c.1 = i
    · by_cases hj : j = i <;> simp_all [Memory.get]
      omega
    · by_cases hj : c.1 = j <;> simp_all [Memory.get]

theorem Memory.get_place (m : Memory) (i j : Nat) (v : Byte) (h : ∀ c ∈ m, c.1 ≠ i) :
    (m.place i v).get j = if j = i then v else m.get j := by
  induction m with
  | nil => by_cases hj : i = j <;> simp [Memory.place, Memory.get, hj, eq_comm]
  | cons c m ih =>
    have hc : c.1 ≠ i := h c (by simp)
    simp only [Memory.place]
    split
    · by_cases hj : j = i
      · simp [Memory.get, hj]
      · have hij : ¬ i = j := fun h => hj h.symm
        simp [Memory.get, hj, hij]
    · rw [Memory.get, ih fun d hd => h d (by simp [hd])]
      by_cases hj : j = i <;> simp_all [Memory.get]

theorem Memory.remove_ne (m : Memory) (i : Nat) : ∀ c ∈ m.remove i, c.1 ≠ i := by
  simp [Memory.remove]

/-- A read after a write, on any list. -/
theorem Memory.get_set (m : Memory) (i j : Nat) (v : Byte) :
    (m.set i v).get j = if j = i then v else m.get j := by
  unfold Memory.set
  split
  · rename_i h; rw [Memory.get_remove, h]
  · rw [Memory.get_place _ _ _ _ (m.remove_ne i), Memory.get_remove]; split <;> rfl

@[simp] theorem Memory.get_set_same (m : Memory) (i : Nat) (v : Byte) : (m.set i v).get i = v := by
  simp [Memory.get_set]

@[simp] theorem Memory.get_set_other (m : Memory) {i j : Nat} (v : Byte) (h : j ≠ i) :
    (m.set i v).get j = m.get j := by
  simp [Memory.get_set, h]

theorem Memory.wf_remove {size : Nat} {m : Memory} (i : Nat) (h : m.wf size) : (m.remove i).wf size :=
  ⟨h.1.filter _, fun c hc => h.2 c (List.mem_filter.mp hc).1⟩

theorem Memory.mem_place {m : Memory} {i : Nat} {v : Byte} {c : Host.Cell} (h : c ∈ m.place i v) :
    c = (i, v) ∨ c ∈ m := by
  induction m with
  | nil => simpa [Memory.place] using h
  | cons d m ih =>
    simp only [Memory.place] at h
    split at h
    · simpa using h
    · rcases List.mem_cons.mp h with rfl | h
      · simp
      · rcases ih h with h | h <;> simp [h]

theorem Memory.pairwise_place {m : Memory} {i : Nat} (v : Byte) (h : m.Pairwise fun c d => c.1 < d.1)
    (hi : ∀ c ∈ m, c.1 ≠ i) : (m.place i v).Pairwise fun c d => c.1 < d.1 := by
  induction m with
  | nil => simp [Memory.place]
  | cons c m ih =>
    have hc : c.1 ≠ i := hi c (by simp)
    obtain ⟨h1, h2⟩ := List.pairwise_cons.mp h
    simp only [Memory.place]
    split
    · rename_i hlt
      refine List.pairwise_cons.mpr ⟨fun d hd => ?_, h⟩
      rcases List.mem_cons.mp hd with rfl | hd
      · exact hlt
      · exact Nat.lt_trans hlt (h1 d hd)
    · refine List.pairwise_cons.mpr ⟨fun d hd => ?_, ih h2 fun d hd => hi d (by simp [hd])⟩
      rcases Memory.mem_place hd with rfl | hd
      · show c.1 < i; omega
      · exact h1 d hd

/-- A write keeps the canonical form. -/
theorem Memory.wf_set {size : Nat} {m : Memory} (i : Nat) (v : Byte) (hi : i < size) (h : m.wf size) :
    (m.set i v).wf size := by
  unfold Memory.set
  split
  · exact Memory.wf_remove i h
  · rename_i hv
    have hr := Memory.wf_remove i h
    refine ⟨Memory.pairwise_place v hr.1 (m.remove_ne i), fun c hc => ?_⟩
    rcases Memory.mem_place hc with rfl | hc
    · exact ⟨hi, hv⟩
    · exact hr.2 c hc

theorem Memory.wf_nil (size : Nat) : Memory.wf size [] := by simp [Memory.wf]

theorem Memory.get_of_lt {c : Host.Cell} {m : Memory} {i : Nat}
    (h : (c :: m).Pairwise fun c d => c.1 < d.1) (hi : i < c.1) : Memory.get (c :: m) i = Config.unlistedByte := by
  induction m generalizing c with
  | nil => simp [Memory.get]; omega
  | cons d m ih =>
    obtain ⟨h1, h2⟩ := List.pairwise_cons.mp h
    rw [Memory.get, if_neg (by omega), ih h2 (Nat.lt_trans hi (h1 d (by simp)))]

/-- Canonical arrays that read alike are equal data. -/
theorem Memory.ext_of_get {size : Nat} {m n : Memory} (hm : m.wf size) (hn : n.wf size)
    (h : ∀ i, m.get i = n.get i) : m = n := by
  induction m generalizing n with
  | nil =>
    cases n with
    | nil => rfl
    | cons d n =>
      have := h d.1
      simp [Memory.get] at this
      exact absurd this.symm (hn.2 d (by simp)).2
  | cons c m ih =>
    cases n with
    | nil =>
      have := h c.1
      simp [Memory.get] at this
      exact absurd this (hm.2 c (by simp)).2
    | cons d n =>
      have hc := h c.1
      have hd := h d.1
      have key : c.1 = d.1 := by
        rcases Nat.lt_trichotomy c.1 d.1 with hlt | heq | hgt
        · rw [Memory.get_of_lt hn.1 hlt] at hc
          simp [Memory.get] at hc
          exact absurd hc (hm.2 c (by simp)).2
        · exact heq
        · rw [Memory.get_of_lt hm.1 hgt] at hd
          simp [Memory.get] at hd
          exact absurd hd.symm (hn.2 d (by simp)).2
      have hval : c.2 = d.2 := by simpa [Memory.get, key] using hc
      obtain ⟨hm1, hm2⟩ := List.pairwise_cons.mp hm.1
      obtain ⟨hn1, hn2⟩ := List.pairwise_cons.mp hn.1
      have tails : m = n := by
        refine ih ⟨hm2, fun e he => hm.2 e (by simp [he])⟩ ⟨hn2, fun e he => hn.2 e (by simp [he])⟩ fun i => ?_
        by_cases hi : i ≤ c.1
        · have bound : ∀ k : Memory, (∀ e ∈ k, c.1 < e.1) → k.get i = Config.unlistedByte := by
            intro k hk
            induction k with
            | nil => rfl
            | cons e k ihk =>
              have := hk e (by simp)
              rw [Memory.get, if_neg (by omega), ihk fun f hf => hk f (by simp [hf])]
          rw [bound m hm1, bound n (by simpa [key] using hn1)]
        · have := h i
          rw [Memory.get, Memory.get, if_neg (by omega), if_neg (by omega)] at this
          exact this
      rw [tails, Prod.ext key hval]

end Sys2Proof.Machine
end

