-- ==== Sys2Proof/Laws/State.lean ====
section
/-! SUPPORT. One lemma per field for every named update of the state: what each operation leaves alone, and the value
of what it sets. -/

namespace Sys2Proof.Machine

-- Many small theorems: elaborating them one after another keeps the number of threads, and so of memory, low.
set_option Elab.async false

namespace State

/-! ### `maskLatch` -/

@[simp] theorem maskLatch_a (s : State) : (s.maskLatch).a = s.a := rfl
@[simp] theorem maskLatch_x (s : State) : (s.maskLatch).x = s.x := rfl
@[simp] theorem maskLatch_y (s : State) : (s.maskLatch).y = s.y := rfl
@[simp] theorem maskLatch_p (s : State) : (s.maskLatch).p = s.p := rfl
@[simp] theorem maskLatch_sp (s : State) : (s.maskLatch).sp = s.sp := rfl
@[simp] theorem maskLatch_pc (s : State) : (s.maskLatch).pc = s.pc := rfl
@[simp] theorem maskLatch_runState (s : State) : (s.maskLatch).runState = s.runState := rfl
@[simp] theorem maskLatch_ram (s : State) : (s.maskLatch).ram = s.ram := rfl
@[simp] theorem maskLatch_ppuReg (s : State) : (s.maskLatch).ppuReg = s.ppuReg := rfl
@[simp] theorem maskLatch_rom (s : State) : (s.maskLatch).rom = s.rom := rfl
@[simp] theorem maskLatch_latchExpectHi (s : State) : (s.maskLatch).latchExpectHi = s.latchExpectHi := rfl
@[simp] theorem maskLatch_ctrl (s : State) : (s.maskLatch).ctrl = s.ctrl := rfl

/-! ### `writeAddressLatch` -/

@[simp] theorem writeAddressLatch_a (s : State) (b : Byte) : (s.writeAddressLatch b).a = s.a := by
  unfold writeAddressLatch; split <;> rfl
@[simp] theorem writeAddressLatch_x (s : State) (b : Byte) : (s.writeAddressLatch b).x = s.x := by
  unfold writeAddressLatch; split <;> rfl
@[simp] theorem writeAddressLatch_y (s : State) (b : Byte) : (s.writeAddressLatch b).y = s.y := by
  unfold writeAddressLatch; split <;> rfl
@[simp] theorem writeAddressLatch_p (s : State) (b : Byte) : (s.writeAddressLatch b).p = s.p := by
  unfold writeAddressLatch; split <;> rfl
@[simp] theorem writeAddressLatch_sp (s : State) (b : Byte) : (s.writeAddressLatch b).sp = s.sp := by
  unfold writeAddressLatch; split <;> rfl
@[simp] theorem writeAddressLatch_pc (s : State) (b : Byte) : (s.writeAddressLatch b).pc = s.pc := by
  unfold writeAddressLatch; split <;> rfl
@[simp] theorem writeAddressLatch_runState (s : State) (b : Byte) : (s.writeAddressLatch b).runState = s.runState := by
  unfold writeAddressLatch; split <;> rfl
@[simp] theorem writeAddressLatch_ram (s : State) (b : Byte) : (s.writeAddressLatch b).ram = s.ram := by
  unfold writeAddressLatch; split <;> rfl
@[simp] theorem writeAddressLatch_ppuReg (s : State) (b : Byte) : (s.writeAddressLatch b).ppuReg = s.ppuReg := by
  unfold writeAddressLatch; split <;> rfl
@[simp] theorem writeAddressLatch_rom (s : State) (b : Byte) : (s.writeAddressLatch b).rom = s.rom := by
  unfold writeAddressLatch; split <;> rfl
@[simp] theorem writeAddressLatch_ctrl (s : State) (b : Byte) : (s.writeAddressLatch b).ctrl = s.ctrl := by
  unfold writeAddressLatch; split <;> rfl
@[simp] theorem writeAddressLatch_latchExpectHi (s : State) (b : Byte) :
    (s.writeAddressLatch b).latchExpectHi = !s.latchExpectHi := rfl

/-! ### `incrementLatch` -/

@[simp] theorem incrementLatch_a (s : State) (step : Byte) : (s.incrementLatch step).a = s.a := rfl
@[simp] theorem incrementLatch_x (s : State) (step : Byte) : (s.incrementLatch step).x = s.x := rfl
@[simp] theorem incrementLatch_y (s : State) (step : Byte) : (s.incrementLatch step).y = s.y := rfl
@[simp] theorem incrementLatch_p (s : State) (step : Byte) : (s.incrementLatch step).p = s.p := rfl
@[simp] theorem incrementLatch_sp (s : State) (step : Byte) : (s.incrementLatch step).sp = s.sp := rfl
@[simp] theorem incrementLatch_pc (s : State) (step : Byte) : (s.incrementLatch step).pc = s.pc := rfl
@[simp] theorem incrementLatch_runState (s : State) (step : Byte) : (s.incrementLatch step).runState = s.runState := rfl
@[simp] theorem incrementLatch_ram (s : State) (step : Byte) : (s.incrementLatch step).ram = s.ram := rfl
@[simp] theorem incrementLatch_ppuReg (s : State) (step : Byte) : (s.incrementLatch step).ppuReg = s.ppuReg := rfl
@[simp] theorem incrementLatch_rom (s : State) (step : Byte) : (s.incrementLatch step).rom = s.rom := rfl
@[simp] theorem incrementLatch_latchExpectHi (s : State) (step : Byte) : (s.incrementLatch step).latchExpectHi = s.latchExpectHi := rfl
@[simp] theorem incrementLatch_ctrl (s : State) (step : Byte) : (s.incrementLatch step).ctrl = s.ctrl := rfl

/-! ### `writeControl` -/

@[simp] theorem writeControl_a (s : State) (b : Byte) : (s.writeControl b).a = s.a := rfl
@[simp] theorem writeControl_x (s : State) (b : Byte) : (s.writeControl b).x = s.x := rfl
@[simp] theorem writeControl_y (s : State) (b : Byte) : (s.writeControl b).y = s.y := rfl
@[simp] theorem writeControl_p (s : State) (b : Byte) : (s.writeControl b).p = s.p := rfl
@[simp] theorem writeControl_sp (s : State) (b : Byte) : (s.writeControl b).sp = s.sp := rfl
@[simp] theorem writeControl_pc (s : State) (b : Byte) : (s.writeControl b).pc = s.pc := rfl
@[simp] theorem writeControl_runState (s : State) (b : Byte) : (s.writeControl b).runState = s.runState := rfl
@[simp] theorem writeControl_ram (s : State) (b : Byte) : (s.writeControl b).ram = s.ram := rfl
@[simp] theorem writeControl_ppuReg (s : State) (b : Byte) : (s.writeControl b).ppuReg = s.ppuReg := rfl
@[simp] theorem writeControl_rom (s : State) (b : Byte) : (s.writeControl b).rom = s.rom := rfl
@[simp] theorem writeControl_latchHi (s : State) (b : Byte) : (s.writeControl b).latchHi = s.latchHi := rfl
@[simp] theorem writeControl_latchLo (s : State) (b : Byte) : (s.writeControl b).latchLo = s.latchLo := rfl
@[simp] theorem writeControl_latchExpectHi (s : State) (b : Byte) : (s.writeControl b).latchExpectHi = s.latchExpectHi := rfl
@[simp] theorem writeControl_ctrl (s : State) (b : Byte) : (s.writeControl b).ctrl = b := by
  simp only [writeControl, Config.ctrlRecognizedMask]
  exact BitVec.and_allOnes

/-! ### `resetLatchToggle` -/

@[simp] theorem resetLatchToggle_a (s : State) : (s.resetLatchToggle).a = s.a := rfl
@[simp] theorem resetLatchToggle_x (s : State) : (s.resetLatchToggle).x = s.x := rfl
@[simp] theorem resetLatchToggle_y (s : State) : (s.resetLatchToggle).y = s.y := rfl
@[simp] theorem resetLatchToggle_p (s : State) : (s.resetLatchToggle).p = s.p := rfl
@[simp] theorem resetLatchToggle_sp (s : State) : (s.resetLatchToggle).sp = s.sp := rfl
@[simp] theorem resetLatchToggle_pc (s : State) : (s.resetLatchToggle).pc = s.pc := rfl
@[simp] theorem resetLatchToggle_runState (s : State) : (s.resetLatchToggle).runState = s.runState := rfl
@[simp] theorem resetLatchToggle_ram (s : State) : (s.resetLatchToggle).ram = s.ram := rfl
@[simp] theorem resetLatchToggle_ppuReg (s : State) : (s.resetLatchToggle).ppuReg = s.ppuReg := rfl
@[simp] theorem resetLatchToggle_rom (s : State) : (s.resetLatchToggle).rom = s.rom := rfl
@[simp] theorem resetLatchToggle_latchHi (s : State) : (s.resetLatchToggle).latchHi = s.latchHi := rfl
@[simp] theorem resetLatchToggle_latchLo (s : State) : (s.resetLatchToggle).latchLo = s.latchLo := rfl
@[simp] theorem resetLatchToggle_ctrl (s : State) : (s.resetLatchToggle).ctrl = s.ctrl := rfl

/-! ### `writePictureRegister` -/

@[simp] theorem writePictureRegister_a (s : State) (r : Nat) (v : Byte) : (s.writePictureRegister r v).a = s.a := by
  unfold writePictureRegister; simp only []; repeat' split
  all_goals simp
@[simp] theorem writePictureRegister_x (s : State) (r : Nat) (v : Byte) : (s.writePictureRegister r v).x = s.x := by
  unfold writePictureRegister; simp only []; repeat' split
  all_goals simp
@[simp] theorem writePictureRegister_y (s : State) (r : Nat) (v : Byte) : (s.writePictureRegister r v).y = s.y := by
  unfold writePictureRegister; simp only []; repeat' split
  all_goals simp
@[simp] theorem writePictureRegister_p (s : State) (r : Nat) (v : Byte) : (s.writePictureRegister r v).p = s.p := by
  unfold writePictureRegister; simp only []; repeat' split
  all_goals simp
@[simp] theorem writePictureRegister_sp (s : State) (r : Nat) (v : Byte) : (s.writePictureRegister r v).sp = s.sp := by
  unfold writePictureRegister; simp only []; repeat' split
  all_goals simp
@[simp] theorem writePictureRegister_pc (s : State) (r : Nat) (v : Byte) : (s.writePictureRegister r v).pc = s.pc := by
  unfold writePictureRegister; simp only []; repeat' split
  all_goals simp
@[simp] theorem writePictureRegister_runState (s : State) (r : Nat) (v : Byte) : (s.writePictureRegister r v).runState = s.runState := by
  unfold writePictureRegister; simp only []; repeat' split
  all_goals simp
@[simp] theorem writePictureRegister_ram (s : State) (r : Nat) (v : Byte) : (s.writePictureRegister r v).ram = s.ram := by
  unfold writePictureRegister; simp only []; repeat' split
  all_goals simp
@[simp] theorem writePictureRegister_rom (s : State) (r : Nat) (v : Byte) : (s.writePictureRegister r v).rom = s.rom := by
  unfold writePictureRegister; simp only []; repeat' split
  all_goals simp
@[simp] theorem writePictureRegister_ppuReg (s : State) (r : Nat) (v : Byte) :
    (s.writePictureRegister r v).ppuReg = s.ppuReg.set r v := by
  unfold writePictureRegister; simp only []; repeat' split
  all_goals simp

/-! ### `write` -/

@[simp] theorem write_a (s : State) (addr : Word) (v : Byte) : (s.write addr v).a = s.a := by
  unfold write; split <;> simp
@[simp] theorem write_x (s : State) (addr : Word) (v : Byte) : (s.write addr v).x = s.x := by
  unfold write; split <;> simp
@[simp] theorem write_y (s : State) (addr : Word) (v : Byte) : (s.write addr v).y = s.y := by
  unfold write; split <;> simp
@[simp] theorem write_p (s : State) (addr : Word) (v : Byte) : (s.write addr v).p = s.p := by
  unfold write; split <;> simp
@[simp] theorem write_sp (s : State) (addr : Word) (v : Byte) : (s.write addr v).sp = s.sp := by
  unfold write; split <;> simp
@[simp] theorem write_pc (s : State) (addr : Word) (v : Byte) : (s.write addr v).pc = s.pc := by
  unfold write; split <;> simp
@[simp] theorem write_runState (s : State) (addr : Word) (v : Byte) : (s.write addr v).runState = s.runState := by
  unfold write; split <;> simp

/-! ### `push` -/

@[simp] theorem push_a (s : State) (v : Byte) : (s.push v).a = s.a := by
  simp [push]
@[simp] theorem push_x (s : State) (v : Byte) : (s.push v).x = s.x := by
  simp [push]
@[simp] theorem push_y (s : State) (v : Byte) : (s.push v).y = s.y := by
  simp [push]
@[simp] theorem push_p (s : State) (v : Byte) : (s.push v).p = s.p := by
  simp [push]
@[simp] theorem push_pc (s : State) (v : Byte) : (s.push v).pc = s.pc := by
  simp [push]
@[simp] theorem push_runState (s : State) (v : Byte) : (s.push v).runState = s.runState := by
  simp [push]
@[simp] theorem push_sp (s : State) (v : Byte) : (s.push v).sp = s.sp - 1#8 := rfl

/-! ### `afterPull` -/

@[simp] theorem afterPull_a (s : State) : (s.afterPull).a = s.a := rfl
@[simp] theorem afterPull_x (s : State) : (s.afterPull).x = s.x := rfl
@[simp] theorem afterPull_y (s : State) : (s.afterPull).y = s.y := rfl
@[simp] theorem afterPull_p (s : State) : (s.afterPull).p = s.p := rfl
@[simp] theorem afterPull_pc (s : State) : (s.afterPull).pc = s.pc := rfl
@[simp] theorem afterPull_runState (s : State) : (s.afterPull).runState = s.runState := rfl
@[simp] theorem afterPull_ram (s : State) : (s.afterPull).ram = s.ram := rfl
@[simp] theorem afterPull_ppuReg (s : State) : (s.afterPull).ppuReg = s.ppuReg := rfl
@[simp] theorem afterPull_rom (s : State) : (s.afterPull).rom = s.rom := rfl
@[simp] theorem afterPull_latchHi (s : State) : (s.afterPull).latchHi = s.latchHi := rfl
@[simp] theorem afterPull_latchLo (s : State) : (s.afterPull).latchLo = s.latchLo := rfl
@[simp] theorem afterPull_latchExpectHi (s : State) : (s.afterPull).latchExpectHi = s.latchExpectHi := rfl
@[simp] theorem afterPull_ctrl (s : State) : (s.afterPull).ctrl = s.ctrl := rfl
@[simp] theorem afterPull_sp (s : State) : s.afterPull.sp = s.sp + 1#8 := rfl

/-! ### `afterPullWord` -/

@[simp] theorem afterPullWord_a (s : State) : (s.afterPullWord).a = s.a := rfl
@[simp] theorem afterPullWord_x (s : State) : (s.afterPullWord).x = s.x := rfl
@[simp] theorem afterPullWord_y (s : State) : (s.afterPullWord).y = s.y := rfl
@[simp] theorem afterPullWord_p (s : State) : (s.afterPullWord).p = s.p := rfl
@[simp] theorem afterPullWord_pc (s : State) : (s.afterPullWord).pc = s.pc := rfl
@[simp] theorem afterPullWord_runState (s : State) : (s.afterPullWord).runState = s.runState := rfl
@[simp] theorem afterPullWord_ram (s : State) : (s.afterPullWord).ram = s.ram := rfl
@[simp] theorem afterPullWord_ppuReg (s : State) : (s.afterPullWord).ppuReg = s.ppuReg := rfl
@[simp] theorem afterPullWord_rom (s : State) : (s.afterPullWord).rom = s.rom := rfl
@[simp] theorem afterPullWord_latchHi (s : State) : (s.afterPullWord).latchHi = s.latchHi := rfl
@[simp] theorem afterPullWord_latchLo (s : State) : (s.afterPullWord).latchLo = s.latchLo := rfl
@[simp] theorem afterPullWord_latchExpectHi (s : State) : (s.afterPullWord).latchExpectHi = s.latchExpectHi := rfl
@[simp] theorem afterPullWord_ctrl (s : State) : (s.afterPullWord).ctrl = s.ctrl := rfl
@[simp] theorem afterPullWord_sp (s : State) : s.afterPullWord.sp = s.sp + 1#8 + 1#8 := rfl

/-! ### `raise` -/

@[simp] theorem raise_a (s : State) (c : Fault) : (s.raise c).a = s.a := rfl
@[simp] theorem raise_x (s : State) (c : Fault) : (s.raise c).x = s.x := rfl
@[simp] theorem raise_y (s : State) (c : Fault) : (s.raise c).y = s.y := rfl
@[simp] theorem raise_p (s : State) (c : Fault) : (s.raise c).p = s.p := rfl
@[simp] theorem raise_sp (s : State) (c : Fault) : (s.raise c).sp = s.sp := rfl
@[simp] theorem raise_pc (s : State) (c : Fault) : (s.raise c).pc = s.pc := rfl
@[simp] theorem raise_ram (s : State) (c : Fault) : (s.raise c).ram = s.ram := rfl
@[simp] theorem raise_ppuReg (s : State) (c : Fault) : (s.raise c).ppuReg = s.ppuReg := rfl
@[simp] theorem raise_rom (s : State) (c : Fault) : (s.raise c).rom = s.rom := rfl
@[simp] theorem raise_latchHi (s : State) (c : Fault) : (s.raise c).latchHi = s.latchHi := rfl
@[simp] theorem raise_latchLo (s : State) (c : Fault) : (s.raise c).latchLo = s.latchLo := rfl
@[simp] theorem raise_latchExpectHi (s : State) (c : Fault) : (s.raise c).latchExpectHi = s.latchExpectHi := rfl
@[simp] theorem raise_ctrl (s : State) (c : Fault) : (s.raise c).ctrl = s.ctrl := rfl
@[simp] theorem raise_runState (s : State) (c : Fault) : (s.raise c).runState = .faulted c := rfl

/-! ### `pastOpcode` -/

@[simp] theorem pastOpcode_a (s : State) : (s.pastOpcode).a = s.a := rfl
@[simp] theorem pastOpcode_x (s : State) : (s.pastOpcode).x = s.x := rfl
@[simp] theorem pastOpcode_y (s : State) : (s.pastOpcode).y = s.y := rfl
@[simp] theorem pastOpcode_p (s : State) : (s.pastOpcode).p = s.p := rfl
@[simp] theorem pastOpcode_sp (s : State) : (s.pastOpcode).sp = s.sp := rfl
@[simp] theorem pastOpcode_runState (s : State) : (s.pastOpcode).runState = s.runState := rfl
@[simp] theorem pastOpcode_ram (s : State) : (s.pastOpcode).ram = s.ram := rfl
@[simp] theorem pastOpcode_ppuReg (s : State) : (s.pastOpcode).ppuReg = s.ppuReg := rfl
@[simp] theorem pastOpcode_rom (s : State) : (s.pastOpcode).rom = s.rom := rfl
@[simp] theorem pastOpcode_latchHi (s : State) : (s.pastOpcode).latchHi = s.latchHi := rfl
@[simp] theorem pastOpcode_latchLo (s : State) : (s.pastOpcode).latchLo = s.latchLo := rfl
@[simp] theorem pastOpcode_latchExpectHi (s : State) : (s.pastOpcode).latchExpectHi = s.latchExpectHi := rfl
@[simp] theorem pastOpcode_ctrl (s : State) : (s.pastOpcode).ctrl = s.ctrl := rfl
@[simp] theorem pastOpcode_pc (s : State) : s.pastOpcode.pc = s.pc + 1#16 := rfl

/-! ### `poke` -/

@[simp] theorem poke_a (s : State) (addr : Word) (v : Byte) : (s.poke addr v).a = s.a := by
  unfold poke; split <;> rfl
@[simp] theorem poke_x (s : State) (addr : Word) (v : Byte) : (s.poke addr v).x = s.x := by
  unfold poke; split <;> rfl
@[simp] theorem poke_y (s : State) (addr : Word) (v : Byte) : (s.poke addr v).y = s.y := by
  unfold poke; split <;> rfl
@[simp] theorem poke_p (s : State) (addr : Word) (v : Byte) : (s.poke addr v).p = s.p := by
  unfold poke; split <;> rfl
@[simp] theorem poke_sp (s : State) (addr : Word) (v : Byte) : (s.poke addr v).sp = s.sp := by
  unfold poke; split <;> rfl
@[simp] theorem poke_pc (s : State) (addr : Word) (v : Byte) : (s.poke addr v).pc = s.pc := by
  unfold poke; split <;> rfl
@[simp] theorem poke_runState (s : State) (addr : Word) (v : Byte) : (s.poke addr v).runState = s.runState := by
  unfold poke; split <;> rfl
@[simp] theorem poke_latchHi (s : State) (addr : Word) (v : Byte) : (s.poke addr v).latchHi = s.latchHi := by
  unfold poke; split <;> rfl
@[simp] theorem poke_latchLo (s : State) (addr : Word) (v : Byte) : (s.poke addr v).latchLo = s.latchLo := by
  unfold poke; split <;> rfl
@[simp] theorem poke_latchExpectHi (s : State) (addr : Word) (v : Byte) : (s.poke addr v).latchExpectHi = s.latchExpectHi := by
  unfold poke; split <;> rfl
@[simp] theorem poke_ctrl (s : State) (addr : Word) (v : Byte) : (s.poke addr v).ctrl = s.ctrl := by
  unfold poke; split <;> rfl

/-! ### `startRun` -/

@[simp] theorem startRun_a (s : State) : (s.startRun).a = s.a := by
  unfold startRun; split <;> rfl
@[simp] theorem startRun_x (s : State) : (s.startRun).x = s.x := by
  unfold startRun; split <;> rfl
@[simp] theorem startRun_y (s : State) : (s.startRun).y = s.y := by
  unfold startRun; split <;> rfl
@[simp] theorem startRun_p (s : State) : (s.startRun).p = s.p := by
  unfold startRun; split <;> rfl
@[simp] theorem startRun_sp (s : State) : (s.startRun).sp = s.sp := by
  unfold startRun; split <;> rfl
@[simp] theorem startRun_pc (s : State) : (s.startRun).pc = s.pc := by
  unfold startRun; split <;> rfl
@[simp] theorem startRun_ram (s : State) : (s.startRun).ram = s.ram := by
  unfold startRun; split <;> rfl
@[simp] theorem startRun_ppuReg (s : State) : (s.startRun).ppuReg = s.ppuReg := by
  unfold startRun; split <;> rfl
@[simp] theorem startRun_rom (s : State) : (s.startRun).rom = s.rom := by
  unfold startRun; split <;> rfl
@[simp] theorem startRun_latchHi (s : State) : (s.startRun).latchHi = s.latchHi := by
  unfold startRun; split <;> rfl
@[simp] theorem startRun_latchLo (s : State) : (s.startRun).latchLo = s.latchLo := by
  unfold startRun; split <;> rfl
@[simp] theorem startRun_latchExpectHi (s : State) : (s.startRun).latchExpectHi = s.latchExpectHi := by
  unfold startRun; split <;> rfl
@[simp] theorem startRun_ctrl (s : State) : (s.startRun).ctrl = s.ctrl := by
  unfold startRun; split <;> rfl

/-! ### `hostReset` -/

@[simp] theorem hostReset_y (s : State) : (s.hostReset).y = s.y := rfl
@[simp] theorem hostReset_sp (s : State) : (s.hostReset).sp = s.sp := rfl
@[simp] theorem hostReset_runState (s : State) : (s.hostReset).runState = s.runState := rfl
@[simp] theorem hostReset_ram (s : State) : (s.hostReset).ram = s.ram := rfl
@[simp] theorem hostReset_ppuReg (s : State) : (s.hostReset).ppuReg = s.ppuReg := rfl
@[simp] theorem hostReset_rom (s : State) : (s.hostReset).rom = s.rom := rfl
@[simp] theorem hostReset_latchHi (s : State) : (s.hostReset).latchHi = s.latchHi := rfl
@[simp] theorem hostReset_latchLo (s : State) : (s.hostReset).latchLo = s.latchLo := rfl
@[simp] theorem hostReset_latchExpectHi (s : State) : (s.hostReset).latchExpectHi = s.latchExpectHi := rfl
@[simp] theorem hostReset_ctrl (s : State) : (s.hostReset).ctrl = s.ctrl := rfl

end State

/-! ### The ends of a routine -/

@[simp] theorem finish_eq (n : Word) (s : State) : finish n s = .next { s with pc := s.pc + n } := rfl

@[simp] theorem transferTo_eq (target : Word) (s : State) : transferTo target s = .next { s with pc := target } := rfl

@[simp] theorem halt_eq (s : State) : halt s = .next { s with runState := .halted } := rfl

end Sys2Proof.Machine
end

