-- ==== Sys2Proof/Laws/Bus.lean ====
section
/-! SUPPORT. The bus: the decode of each region, a read after a write, the canonical form and the latch range kept by
every write, and the stack operations as what they do to the RAM array. -/

namespace Sys2Proof.Machine

/-! ## Address decode (R41) -/

theorem busDecode_ram {a : Word} (h : a.toNat ≤ 0x1FFF) : busDecode a = .ram (a.toNat % 0x800) := by
  simp [busDecode, h, Nat.and_two_pow_sub_one_eq_mod a.toNat 11]

theorem busDecode_ppu {a : Word} (h : 0x2000 ≤ a.toNat) (h' : a.toNat ≤ 0x3FFF) :
    busDecode a = .ppu (a.toNat % 8) := by
  simp [busDecode, show ¬ a.toNat ≤ 0x1FFF by omega, h', Nat.and_two_pow_sub_one_eq_mod a.toNat 3]

theorem busDecode_rom {a : Word} (h : 0x8000 ≤ a.toNat) : busDecode a = .rom (a.toNat - 0x8000) := by
  simp [busDecode, Config.romBase, show ¬ a.toNat ≤ 0x1FFF by omega, show ¬ a.toNat ≤ 0x3FFF by omega, h]

theorem busDecode_unmapped {a : Word} (h : 0x4000 ≤ a.toNat) (h' : a.toNat ≤ 0x7FFF) :
    busDecode a = .unmapped := by
  simp [busDecode, Config.romBase, show ¬ a.toNat ≤ 0x1FFF by omega, show ¬ a.toNat ≤ 0x3FFF by omega,
    show ¬ 0x8000 ≤ a.toNat by omega]

/-- Every address falls in exactly one row of the decode table (R41). -/
theorem busDecode_cases (a : Word) :
    (a.toNat ≤ 0x1FFF ∧ busDecode a = .ram (a.toNat % 0x800)) ∨
    (0x2000 ≤ a.toNat ∧ a.toNat ≤ 0x3FFF ∧ busDecode a = .ppu (a.toNat % 8)) ∨
    (0x4000 ≤ a.toNat ∧ a.toNat ≤ 0x7FFF ∧ busDecode a = .unmapped) ∨
    (0x8000 ≤ a.toNat ∧ busDecode a = .rom (a.toNat - 0x8000)) := by
  by_cases h1 : a.toNat ≤ 0x1FFF
  · exact .inl ⟨h1, busDecode_ram h1⟩
  by_cases h2 : a.toNat ≤ 0x3FFF
  · exact .inr (.inl ⟨by omega, h2, busDecode_ppu (by omega) h2⟩)
  by_cases h3 : a.toNat ≤ 0x7FFF
  · exact .inr (.inr (.inl ⟨by omega, h3, busDecode_unmapped (by omega) h3⟩))
  · exact .inr (.inr (.inr ⟨by omega, busDecode_rom (by omega)⟩))

/-- The indexes the decode gives stay inside their arrays. -/
theorem busDecode_bounds (a : Word) :
    match busDecode a with
    | .ram i => i < Config.ramSize
    | .ppu r => r < Config.ppuNregs
    | .rom i => i < Config.romSize
    | .unmapped => True := by
  have := a.isLt
  rcases busDecode_cases a with ⟨h, e⟩ | ⟨h, h', e⟩ | ⟨h, h', e⟩ | ⟨h, e⟩ <;>
    simp only [e, Config.ramSize, Config.ppuNregs, Config.romSize] <;> omega

/-! ## Reads and writes -/

/-- A read after a write (R65), by the cells the addresses select. -/
theorem State.read_write (s : State) (a b : Word) (v : Byte) :
    (s.write a v).read b = if busDecode b = busDecode a ∧ busDecode a ≠ .unmapped then v else s.read b := by
  unfold State.read State.write
  cases ha : busDecode a <;> cases hb : busDecode b <;> simp [Memory.get_set]

/-- A write does not see registers, and registers do not see a write: the two updates commute. -/
theorem State.read_congr {s t : State} (b : Word) (h1 : t.ram = s.ram) (h2 : t.ppuReg = s.ppuReg)
    (h3 : t.rom = s.rom) : t.read b = s.read b := by
  simp only [State.read, h1, h2, h3]

/-! ## The latch stays within 14 bits (R24) -/

theorem State.getAddress_maskLatch (s : State) :
    s.maskLatch.getAddress =
      if s.getAddress.toNat > Config.latchMask.toNat then s.getAddress &&& Config.latchMask else s.getAddress := by
  simp [State.maskLatch, State.getAddress]

/-- The latch after its mask, as a number (R57, R59). -/
theorem State.toNat_maskLatch (s : State) : s.maskLatch.getAddress.toNat = s.getAddress.toNat % 0x4000 := by
  rw [State.getAddress_maskLatch]
  split
  · rw [BitVec.toNat_and, show Config.latchMask.toNat = 2 ^ 14 - 1 from rfl, Nat.and_two_pow_sub_one_eq_mod]
  · rename_i h
    simp only [Config.latchMask, BitVec.toNat_ofNat] at h
    omega

theorem State.getAddress_maskLatch_le (s : State) : s.maskLatch.getAddress.toNat ≤ Config.latchMask.toNat := by
  rw [State.getAddress_maskLatch]
  split
  · rw [BitVec.toNat_and]; exact Nat.and_le_right
  · omega

theorem State.getAddress_writeAddressLatch_le (s : State) (b : Byte) :
    (s.writeAddressLatch b).getAddress.toNat ≤ Config.latchMask.toNat := by
  unfold State.writeAddressLatch
  exact State.getAddress_maskLatch_le (if s.latchExpectHi then { s with latchHi := b } else { s with latchLo := b })

theorem State.getAddress_incrementLatch_le (s : State) (step : Byte) :
    (s.incrementLatch step).getAddress.toNat ≤ Config.latchMask.toNat := by
  unfold State.incrementLatch
  exact State.getAddress_maskLatch_le _

/-! ## Every operation keeps a sound state sound -/

theorem State.wf_writeAddressLatch {s : State} (b : Byte) (h : s.wf) : (s.writeAddressLatch b).wf := by
  refine ⟨by simpa using h.1, by simpa using h.2.1, by simpa using h.2.2.1, ?_⟩
  exact s.getAddress_writeAddressLatch_le b

theorem State.wf_incrementLatch {s : State} (step : Byte) (h : s.wf) : (s.incrementLatch step).wf :=
  ⟨h.1, h.2.1, h.2.2.1, s.getAddress_incrementLatch_le step⟩

theorem State.wf_writePictureRegister {s : State} {r : Nat} (v : Byte) (hr : r < Config.ppuNregs) (h : s.wf) :
    (s.writePictureRegister r v).wf := by
  have h1 : State.wf { s with ppuReg := s.ppuReg.set r v } := ⟨h.1, Memory.wf_set r v hr h.2.1, h.2.2⟩
  unfold State.writePictureRegister
  simp only []
  split
  · exact h1
  · split
    · exact State.wf_writeAddressLatch v h1
    · exact h1

theorem State.wf_write {s : State} (a : Word) (v : Byte) (h : s.wf) : (s.write a v).wf := by
  have hb := busDecode_bounds a
  unfold State.write
  cases hd : busDecode a <;> simp only [hd] at hb ⊢
  · exact ⟨Memory.wf_set _ v hb h.1, h.2⟩
  · exact State.wf_writePictureRegister v hb h
  · exact ⟨h.1, h.2.1, Memory.wf_set _ v hb h.2.2.1, h.2.2.2⟩
  · exact h

theorem State.wf_poke {s : State} (a : Word) (v : Byte) (h : s.wf) : (s.poke a v).wf := by
  have hb := busDecode_bounds a
  unfold State.poke
  cases hd : busDecode a <;> simp only [hd] at hb ⊢
  · exact ⟨Memory.wf_set _ v hb h.1, h.2⟩
  · exact ⟨h.1, Memory.wf_set _ v hb h.2.1, h.2.2⟩
  · exact ⟨h.1, h.2.1, Memory.wf_set _ v hb h.2.2.1, h.2.2.2⟩
  · exact h

/-! ## The stack (R16, R120, R121) -/

theorem toNat_stackAddr (sp : Byte) : (stackAddr sp).toNat = 256 + sp.toNat := by
  simp [stackAddr, toNat_wordOf, Config.stackPage]

theorem busDecode_stackAddr (sp : Byte) : busDecode (stackAddr sp) = .ram (256 + sp.toNat) := by
  have := sp.isLt
  rw [busDecode_ram (by rw [toNat_stackAddr]; omega), toNat_stackAddr, Nat.mod_eq_of_lt (by omega)]

/-- All that `push` does (R120). -/
theorem State.push_eq (s : State) (v : Byte) :
    s.push v = { s with ram := s.ram.set (256 + s.sp.toNat) v, sp := s.sp - 1#8 } := by
  simp [State.push, State.write, busDecode_stackAddr]

/-- All that JSR's two pushes do (R201). -/
theorem State.pushWord_eq (s : State) (w : Word) :
    s.pushWord w =
      { s with ram := (s.ram.set (256 + s.sp.toNat) (highByte w)).set (256 + (s.sp - 1#8).toNat) (lowByte w),
               sp := s.sp - 1#8 - 1#8 } := by
  simp [State.pushWord, State.push_eq]

/-- The byte `pull` gives (R121). -/
theorem State.pulledByte_eq (s : State) : s.pulledByte = s.ram.get (256 + (s.sp + 1#8).toNat) := by
  simp [State.pulledByte, State.read, busDecode_stackAddr]

theorem State.wf_push {s : State} (v : Byte) (h : s.wf) : (s.push v).wf := State.wf_write (stackAddr s.sp) v h

theorem State.wf_pushWord {s : State} (w : Word) (h : s.wf) : (s.pushWord w).wf :=
  State.wf_push _ (State.wf_push _ h)

end Sys2Proof.Machine
end

