-- ==== Sys2Proof/Laws/PerInstr.lean ====
section
/-! SUPPORT. Facts about every instruction as syntax, one lemma per constructor. -/

namespace Sys2Proof.Laws

/-- The decoder of the `FULL` profile gives the instruction back from its words, and the rest of the bytes with it. -/
def RoundTrip.Statement (i : Instr) : Prop := ∀ rest, decode .full (encode i ++ rest) = .ok (i, rest)

/-- An instruction with no operand field. -/
theorem roundTrip_implied {i : Instr} {opcode : Byte} (he : encode i = [opcode])
    (hd : dispatch .full opcode = some (.implied i)) : RoundTrip.Statement i := by
  intro rest; simp [he, decode, hd]

/-- An instruction with a byte operand field. -/
theorem roundTrip_byte {f : Byte → Instr} {opcode b : Byte} (he : encode (f b) = [opcode, b])
    (hd : dispatch .full opcode = some (.byte f)) : RoundTrip.Statement (f b) := by
  intro rest; simp [he, decode, hd]

/-- An instruction with a 16-bit operand field. -/
theorem roundTrip_word {f : Word → Instr} {opcode : Byte} {w : Word}
    (he : encode (f w) = [opcode, lowByte w, highByte w]) (hd : dispatch .full opcode = some (.word f)) :
    RoundTrip.Statement (f w) := by
  intro rest; simp [he, decode, hd]

theorem RoundTrip.ldaImm (b : Byte) : RoundTrip.Statement (.ldaImm b) := roundTrip_byte (f := .ldaImm) rfl rfl
theorem RoundTrip.ldaZp (b : Byte) : RoundTrip.Statement (.ldaZp b) := roundTrip_byte (f := .ldaZp) rfl rfl
theorem RoundTrip.ldaZpx (b : Byte) : RoundTrip.Statement (.ldaZpx b) := roundTrip_byte (f := .ldaZpx) rfl rfl
theorem RoundTrip.ldaAbs (w : Word) : RoundTrip.Statement (.ldaAbs w) := roundTrip_word (f := .ldaAbs) rfl rfl
theorem RoundTrip.ldaAbx (w : Word) : RoundTrip.Statement (.ldaAbx w) := roundTrip_word (f := .ldaAbx) rfl rfl
theorem RoundTrip.ldaAby (w : Word) : RoundTrip.Statement (.ldaAby w) := roundTrip_word (f := .ldaAby) rfl rfl
theorem RoundTrip.ldaIzx (b : Byte) : RoundTrip.Statement (.ldaIzx b) := roundTrip_byte (f := .ldaIzx) rfl rfl
theorem RoundTrip.ldaIzy (b : Byte) : RoundTrip.Statement (.ldaIzy b) := roundTrip_byte (f := .ldaIzy) rfl rfl
theorem RoundTrip.staZp (b : Byte) : RoundTrip.Statement (.staZp b) := roundTrip_byte (f := .staZp) rfl rfl
theorem RoundTrip.staZpx (b : Byte) : RoundTrip.Statement (.staZpx b) := roundTrip_byte (f := .staZpx) rfl rfl
theorem RoundTrip.staAbs (w : Word) : RoundTrip.Statement (.staAbs w) := roundTrip_word (f := .staAbs) rfl rfl
theorem RoundTrip.staAbx (w : Word) : RoundTrip.Statement (.staAbx w) := roundTrip_word (f := .staAbx) rfl rfl
theorem RoundTrip.staAby (w : Word) : RoundTrip.Statement (.staAby w) := roundTrip_word (f := .staAby) rfl rfl
theorem RoundTrip.staIzx (b : Byte) : RoundTrip.Statement (.staIzx b) := roundTrip_byte (f := .staIzx) rfl rfl
theorem RoundTrip.staIzy (b : Byte) : RoundTrip.Statement (.staIzy b) := roundTrip_byte (f := .staIzy) rfl rfl
theorem RoundTrip.ldxImm (b : Byte) : RoundTrip.Statement (.ldxImm b) := roundTrip_byte (f := .ldxImm) rfl rfl
theorem RoundTrip.ldxZp (b : Byte) : RoundTrip.Statement (.ldxZp b) := roundTrip_byte (f := .ldxZp) rfl rfl
theorem RoundTrip.ldxZpy (b : Byte) : RoundTrip.Statement (.ldxZpy b) := roundTrip_byte (f := .ldxZpy) rfl rfl
theorem RoundTrip.ldxAbs (w : Word) : RoundTrip.Statement (.ldxAbs w) := roundTrip_word (f := .ldxAbs) rfl rfl
theorem RoundTrip.ldxAby (w : Word) : RoundTrip.Statement (.ldxAby w) := roundTrip_word (f := .ldxAby) rfl rfl
theorem RoundTrip.ldyImm (b : Byte) : RoundTrip.Statement (.ldyImm b) := roundTrip_byte (f := .ldyImm) rfl rfl
theorem RoundTrip.ldyZp (b : Byte) : RoundTrip.Statement (.ldyZp b) := roundTrip_byte (f := .ldyZp) rfl rfl
theorem RoundTrip.ldyZpx (b : Byte) : RoundTrip.Statement (.ldyZpx b) := roundTrip_byte (f := .ldyZpx) rfl rfl
theorem RoundTrip.ldyAbs (w : Word) : RoundTrip.Statement (.ldyAbs w) := roundTrip_word (f := .ldyAbs) rfl rfl
theorem RoundTrip.ldyAbx (w : Word) : RoundTrip.Statement (.ldyAbx w) := roundTrip_word (f := .ldyAbx) rfl rfl
theorem RoundTrip.stxZp (b : Byte) : RoundTrip.Statement (.stxZp b) := roundTrip_byte (f := .stxZp) rfl rfl
theorem RoundTrip.stxZpy (b : Byte) : RoundTrip.Statement (.stxZpy b) := roundTrip_byte (f := .stxZpy) rfl rfl
theorem RoundTrip.stxAbs (w : Word) : RoundTrip.Statement (.stxAbs w) := roundTrip_word (f := .stxAbs) rfl rfl
theorem RoundTrip.styZp (b : Byte) : RoundTrip.Statement (.styZp b) := roundTrip_byte (f := .styZp) rfl rfl
theorem RoundTrip.styZpx (b : Byte) : RoundTrip.Statement (.styZpx b) := roundTrip_byte (f := .styZpx) rfl rfl
theorem RoundTrip.styAbs (w : Word) : RoundTrip.Statement (.styAbs w) := roundTrip_word (f := .styAbs) rfl rfl
theorem RoundTrip.tax : RoundTrip.Statement .tax := roundTrip_implied rfl rfl
theorem RoundTrip.inx : RoundTrip.Statement .inx := roundTrip_implied rfl rfl
theorem RoundTrip.tay : RoundTrip.Statement .tay := roundTrip_implied rfl rfl
theorem RoundTrip.txa : RoundTrip.Statement .txa := roundTrip_implied rfl rfl
theorem RoundTrip.tya : RoundTrip.Statement .tya := roundTrip_implied rfl rfl
theorem RoundTrip.tsx : RoundTrip.Statement .tsx := roundTrip_implied rfl rfl
theorem RoundTrip.txs : RoundTrip.Statement .txs := roundTrip_implied rfl rfl
theorem RoundTrip.iny : RoundTrip.Statement .iny := roundTrip_implied rfl rfl
theorem RoundTrip.dex : RoundTrip.Statement .dex := roundTrip_implied rfl rfl
theorem RoundTrip.dey : RoundTrip.Statement .dey := roundTrip_implied rfl rfl
theorem RoundTrip.incZp (b : Byte) : RoundTrip.Statement (.incZp b) := roundTrip_byte (f := .incZp) rfl rfl
theorem RoundTrip.incZpx (b : Byte) : RoundTrip.Statement (.incZpx b) := roundTrip_byte (f := .incZpx) rfl rfl
theorem RoundTrip.incAbs (w : Word) : RoundTrip.Statement (.incAbs w) := roundTrip_word (f := .incAbs) rfl rfl
theorem RoundTrip.incAbx (w : Word) : RoundTrip.Statement (.incAbx w) := roundTrip_word (f := .incAbx) rfl rfl
theorem RoundTrip.decZp (b : Byte) : RoundTrip.Statement (.decZp b) := roundTrip_byte (f := .decZp) rfl rfl
theorem RoundTrip.decZpx (b : Byte) : RoundTrip.Statement (.decZpx b) := roundTrip_byte (f := .decZpx) rfl rfl
theorem RoundTrip.decAbs (w : Word) : RoundTrip.Statement (.decAbs w) := roundTrip_word (f := .decAbs) rfl rfl
theorem RoundTrip.decAbx (w : Word) : RoundTrip.Statement (.decAbx w) := roundTrip_word (f := .decAbx) rfl rfl
theorem RoundTrip.adcImm (b : Byte) : RoundTrip.Statement (.adcImm b) := roundTrip_byte (f := .adcImm) rfl rfl
theorem RoundTrip.adcZp (b : Byte) : RoundTrip.Statement (.adcZp b) := roundTrip_byte (f := .adcZp) rfl rfl
theorem RoundTrip.adcZpx (b : Byte) : RoundTrip.Statement (.adcZpx b) := roundTrip_byte (f := .adcZpx) rfl rfl
theorem RoundTrip.adcAbs (w : Word) : RoundTrip.Statement (.adcAbs w) := roundTrip_word (f := .adcAbs) rfl rfl
theorem RoundTrip.adcAbx (w : Word) : RoundTrip.Statement (.adcAbx w) := roundTrip_word (f := .adcAbx) rfl rfl
theorem RoundTrip.adcAby (w : Word) : RoundTrip.Statement (.adcAby w) := roundTrip_word (f := .adcAby) rfl rfl
theorem RoundTrip.adcIzx (b : Byte) : RoundTrip.Statement (.adcIzx b) := roundTrip_byte (f := .adcIzx) rfl rfl
theorem RoundTrip.adcIzy (b : Byte) : RoundTrip.Statement (.adcIzy b) := roundTrip_byte (f := .adcIzy) rfl rfl
theorem RoundTrip.sbcImm (b : Byte) : RoundTrip.Statement (.sbcImm b) := roundTrip_byte (f := .sbcImm) rfl rfl
theorem RoundTrip.sbcZp (b : Byte) : RoundTrip.Statement (.sbcZp b) := roundTrip_byte (f := .sbcZp) rfl rfl
theorem RoundTrip.sbcZpx (b : Byte) : RoundTrip.Statement (.sbcZpx b) := roundTrip_byte (f := .sbcZpx) rfl rfl
theorem RoundTrip.sbcAbs (w : Word) : RoundTrip.Statement (.sbcAbs w) := roundTrip_word (f := .sbcAbs) rfl rfl
theorem RoundTrip.sbcAbx (w : Word) : RoundTrip.Statement (.sbcAbx w) := roundTrip_word (f := .sbcAbx) rfl rfl
theorem RoundTrip.sbcAby (w : Word) : RoundTrip.Statement (.sbcAby w) := roundTrip_word (f := .sbcAby) rfl rfl
theorem RoundTrip.sbcIzx (b : Byte) : RoundTrip.Statement (.sbcIzx b) := roundTrip_byte (f := .sbcIzx) rfl rfl
theorem RoundTrip.sbcIzy (b : Byte) : RoundTrip.Statement (.sbcIzy b) := roundTrip_byte (f := .sbcIzy) rfl rfl
theorem RoundTrip.andImm (b : Byte) : RoundTrip.Statement (.andImm b) := roundTrip_byte (f := .andImm) rfl rfl
theorem RoundTrip.andZp (b : Byte) : RoundTrip.Statement (.andZp b) := roundTrip_byte (f := .andZp) rfl rfl
theorem RoundTrip.andZpx (b : Byte) : RoundTrip.Statement (.andZpx b) := roundTrip_byte (f := .andZpx) rfl rfl
theorem RoundTrip.andAbs (w : Word) : RoundTrip.Statement (.andAbs w) := roundTrip_word (f := .andAbs) rfl rfl
theorem RoundTrip.andAbx (w : Word) : RoundTrip.Statement (.andAbx w) := roundTrip_word (f := .andAbx) rfl rfl
theorem RoundTrip.andAby (w : Word) : RoundTrip.Statement (.andAby w) := roundTrip_word (f := .andAby) rfl rfl
theorem RoundTrip.andIzx (b : Byte) : RoundTrip.Statement (.andIzx b) := roundTrip_byte (f := .andIzx) rfl rfl
theorem RoundTrip.andIzy (b : Byte) : RoundTrip.Statement (.andIzy b) := roundTrip_byte (f := .andIzy) rfl rfl
theorem RoundTrip.oraImm (b : Byte) : RoundTrip.Statement (.oraImm b) := roundTrip_byte (f := .oraImm) rfl rfl
theorem RoundTrip.oraZp (b : Byte) : RoundTrip.Statement (.oraZp b) := roundTrip_byte (f := .oraZp) rfl rfl
theorem RoundTrip.oraZpx (b : Byte) : RoundTrip.Statement (.oraZpx b) := roundTrip_byte (f := .oraZpx) rfl rfl
theorem RoundTrip.oraAbs (w : Word) : RoundTrip.Statement (.oraAbs w) := roundTrip_word (f := .oraAbs) rfl rfl
theorem RoundTrip.oraAbx (w : Word) : RoundTrip.Statement (.oraAbx w) := roundTrip_word (f := .oraAbx) rfl rfl
theorem RoundTrip.oraAby (w : Word) : RoundTrip.Statement (.oraAby w) := roundTrip_word (f := .oraAby) rfl rfl
theorem RoundTrip.oraIzx (b : Byte) : RoundTrip.Statement (.oraIzx b) := roundTrip_byte (f := .oraIzx) rfl rfl
theorem RoundTrip.oraIzy (b : Byte) : RoundTrip.Statement (.oraIzy b) := roundTrip_byte (f := .oraIzy) rfl rfl
theorem RoundTrip.eorImm (b : Byte) : RoundTrip.Statement (.eorImm b) := roundTrip_byte (f := .eorImm) rfl rfl
theorem RoundTrip.eorZp (b : Byte) : RoundTrip.Statement (.eorZp b) := roundTrip_byte (f := .eorZp) rfl rfl
theorem RoundTrip.eorZpx (b : Byte) : RoundTrip.Statement (.eorZpx b) := roundTrip_byte (f := .eorZpx) rfl rfl
theorem RoundTrip.eorAbs (w : Word) : RoundTrip.Statement (.eorAbs w) := roundTrip_word (f := .eorAbs) rfl rfl
theorem RoundTrip.eorAbx (w : Word) : RoundTrip.Statement (.eorAbx w) := roundTrip_word (f := .eorAbx) rfl rfl
theorem RoundTrip.eorAby (w : Word) : RoundTrip.Statement (.eorAby w) := roundTrip_word (f := .eorAby) rfl rfl
theorem RoundTrip.eorIzx (b : Byte) : RoundTrip.Statement (.eorIzx b) := roundTrip_byte (f := .eorIzx) rfl rfl
theorem RoundTrip.eorIzy (b : Byte) : RoundTrip.Statement (.eorIzy b) := roundTrip_byte (f := .eorIzy) rfl rfl
theorem RoundTrip.cmpImm (b : Byte) : RoundTrip.Statement (.cmpImm b) := roundTrip_byte (f := .cmpImm) rfl rfl
theorem RoundTrip.cmpZp (b : Byte) : RoundTrip.Statement (.cmpZp b) := roundTrip_byte (f := .cmpZp) rfl rfl
theorem RoundTrip.cmpZpx (b : Byte) : RoundTrip.Statement (.cmpZpx b) := roundTrip_byte (f := .cmpZpx) rfl rfl
theorem RoundTrip.cmpAbs (w : Word) : RoundTrip.Statement (.cmpAbs w) := roundTrip_word (f := .cmpAbs) rfl rfl
theorem RoundTrip.cmpAbx (w : Word) : RoundTrip.Statement (.cmpAbx w) := roundTrip_word (f := .cmpAbx) rfl rfl
theorem RoundTrip.cmpAby (w : Word) : RoundTrip.Statement (.cmpAby w) := roundTrip_word (f := .cmpAby) rfl rfl
theorem RoundTrip.cmpIzx (b : Byte) : RoundTrip.Statement (.cmpIzx b) := roundTrip_byte (f := .cmpIzx) rfl rfl
theorem RoundTrip.cmpIzy (b : Byte) : RoundTrip.Statement (.cmpIzy b) := roundTrip_byte (f := .cmpIzy) rfl rfl
theorem RoundTrip.cpxImm (b : Byte) : RoundTrip.Statement (.cpxImm b) := roundTrip_byte (f := .cpxImm) rfl rfl
theorem RoundTrip.cpxZp (b : Byte) : RoundTrip.Statement (.cpxZp b) := roundTrip_byte (f := .cpxZp) rfl rfl
theorem RoundTrip.cpxAbs (w : Word) : RoundTrip.Statement (.cpxAbs w) := roundTrip_word (f := .cpxAbs) rfl rfl
theorem RoundTrip.cpyImm (b : Byte) : RoundTrip.Statement (.cpyImm b) := roundTrip_byte (f := .cpyImm) rfl rfl
theorem RoundTrip.cpyZp (b : Byte) : RoundTrip.Statement (.cpyZp b) := roundTrip_byte (f := .cpyZp) rfl rfl
theorem RoundTrip.cpyAbs (w : Word) : RoundTrip.Statement (.cpyAbs w) := roundTrip_word (f := .cpyAbs) rfl rfl
theorem RoundTrip.bitZp (b : Byte) : RoundTrip.Statement (.bitZp b) := roundTrip_byte (f := .bitZp) rfl rfl
theorem RoundTrip.bitAbs (w : Word) : RoundTrip.Statement (.bitAbs w) := roundTrip_word (f := .bitAbs) rfl rfl
theorem RoundTrip.aslAcc : RoundTrip.Statement .aslAcc := roundTrip_implied rfl rfl
theorem RoundTrip.aslZp (b : Byte) : RoundTrip.Statement (.aslZp b) := roundTrip_byte (f := .aslZp) rfl rfl
theorem RoundTrip.aslZpx (b : Byte) : RoundTrip.Statement (.aslZpx b) := roundTrip_byte (f := .aslZpx) rfl rfl
theorem RoundTrip.aslAbs (w : Word) : RoundTrip.Statement (.aslAbs w) := roundTrip_word (f := .aslAbs) rfl rfl
theorem RoundTrip.aslAbx (w : Word) : RoundTrip.Statement (.aslAbx w) := roundTrip_word (f := .aslAbx) rfl rfl
theorem RoundTrip.lsrAcc : RoundTrip.Statement .lsrAcc := roundTrip_implied rfl rfl
theorem RoundTrip.lsrZp (b : Byte) : RoundTrip.Statement (.lsrZp b) := roundTrip_byte (f := .lsrZp) rfl rfl
theorem RoundTrip.lsrZpx (b : Byte) : RoundTrip.Statement (.lsrZpx b) := roundTrip_byte (f := .lsrZpx) rfl rfl
theorem RoundTrip.lsrAbs (w : Word) : RoundTrip.Statement (.lsrAbs w) := roundTrip_word (f := .lsrAbs) rfl rfl
theorem RoundTrip.lsrAbx (w : Word) : RoundTrip.Statement (.lsrAbx w) := roundTrip_word (f := .lsrAbx) rfl rfl
theorem RoundTrip.rolAcc : RoundTrip.Statement .rolAcc := roundTrip_implied rfl rfl
theorem RoundTrip.rolZp (b : Byte) : RoundTrip.Statement (.rolZp b) := roundTrip_byte (f := .rolZp) rfl rfl
theorem RoundTrip.rolZpx (b : Byte) : RoundTrip.Statement (.rolZpx b) := roundTrip_byte (f := .rolZpx) rfl rfl
theorem RoundTrip.rolAbs (w : Word) : RoundTrip.Statement (.rolAbs w) := roundTrip_word (f := .rolAbs) rfl rfl
theorem RoundTrip.rolAbx (w : Word) : RoundTrip.Statement (.rolAbx w) := roundTrip_word (f := .rolAbx) rfl rfl
theorem RoundTrip.rorAcc : RoundTrip.Statement .rorAcc := roundTrip_implied rfl rfl
theorem RoundTrip.rorZp (b : Byte) : RoundTrip.Statement (.rorZp b) := roundTrip_byte (f := .rorZp) rfl rfl
theorem RoundTrip.rorZpx (b : Byte) : RoundTrip.Statement (.rorZpx b) := roundTrip_byte (f := .rorZpx) rfl rfl
theorem RoundTrip.rorAbs (w : Word) : RoundTrip.Statement (.rorAbs w) := roundTrip_word (f := .rorAbs) rfl rfl
theorem RoundTrip.rorAbx (w : Word) : RoundTrip.Statement (.rorAbx w) := roundTrip_word (f := .rorAbx) rfl rfl
theorem RoundTrip.bccRel (b : Byte) : RoundTrip.Statement (.bccRel b) := roundTrip_byte (f := .bccRel) rfl rfl
theorem RoundTrip.bcsRel (b : Byte) : RoundTrip.Statement (.bcsRel b) := roundTrip_byte (f := .bcsRel) rfl rfl
theorem RoundTrip.beqRel (b : Byte) : RoundTrip.Statement (.beqRel b) := roundTrip_byte (f := .beqRel) rfl rfl
theorem RoundTrip.bmiRel (b : Byte) : RoundTrip.Statement (.bmiRel b) := roundTrip_byte (f := .bmiRel) rfl rfl
theorem RoundTrip.bneRel (b : Byte) : RoundTrip.Statement (.bneRel b) := roundTrip_byte (f := .bneRel) rfl rfl
theorem RoundTrip.bplRel (b : Byte) : RoundTrip.Statement (.bplRel b) := roundTrip_byte (f := .bplRel) rfl rfl
theorem RoundTrip.bvcRel (b : Byte) : RoundTrip.Statement (.bvcRel b) := roundTrip_byte (f := .bvcRel) rfl rfl
theorem RoundTrip.bvsRel (b : Byte) : RoundTrip.Statement (.bvsRel b) := roundTrip_byte (f := .bvsRel) rfl rfl
theorem RoundTrip.jmpAbs (w : Word) : RoundTrip.Statement (.jmpAbs w) := roundTrip_word (f := .jmpAbs) rfl rfl
theorem RoundTrip.jmpInd (w : Word) : RoundTrip.Statement (.jmpInd w) := roundTrip_word (f := .jmpInd) rfl rfl
theorem RoundTrip.jsrAbs (w : Word) : RoundTrip.Statement (.jsrAbs w) := roundTrip_word (f := .jsrAbs) rfl rfl
theorem RoundTrip.rts : RoundTrip.Statement .rts := roundTrip_implied rfl rfl
theorem RoundTrip.rti : RoundTrip.Statement .rti := roundTrip_implied rfl rfl
theorem RoundTrip.pha : RoundTrip.Statement .pha := roundTrip_implied rfl rfl
theorem RoundTrip.php : RoundTrip.Statement .php := roundTrip_implied rfl rfl
theorem RoundTrip.pla : RoundTrip.Statement .pla := roundTrip_implied rfl rfl
theorem RoundTrip.plp : RoundTrip.Statement .plp := roundTrip_implied rfl rfl
theorem RoundTrip.clc : RoundTrip.Statement .clc := roundTrip_implied rfl rfl
theorem RoundTrip.cld : RoundTrip.Statement .cld := roundTrip_implied rfl rfl
theorem RoundTrip.cli : RoundTrip.Statement .cli := roundTrip_implied rfl rfl
theorem RoundTrip.clv : RoundTrip.Statement .clv := roundTrip_implied rfl rfl
theorem RoundTrip.sec : RoundTrip.Statement .sec := roundTrip_implied rfl rfl
theorem RoundTrip.sed : RoundTrip.Statement .sed := roundTrip_implied rfl rfl
theorem RoundTrip.sei : RoundTrip.Statement .sei := roundTrip_implied rfl rfl
theorem RoundTrip.nop : RoundTrip.Statement .nop := roundTrip_implied rfl rfl
theorem RoundTrip.brk : RoundTrip.Statement .brk := roundTrip_implied rfl rfl

end Sys2Proof.Laws
end

