-- ==== Sys2Proof/Laws/Decode.lean ====
section
/-! SUPPORT. The opcode map against the encoder: every assigned cell of the grid completes instructions whose words
begin with that cell's opcode byte. -/

namespace Sys2Proof

/-- What a shape under an opcode byte must complete: instructions with that opcode and the operand field as given, in
the `MINIMUM` profile exactly when the byte is one of its 18, and of one mnemonic and format whatever the operand. -/
def Shape.Fits (opcode : Byte) : Shape → Prop
  | .implied i => encode i = [opcode] ∧ i.inMinimum = minimumOpcodes.contains opcode
  | .byte f => ∀ b, encode (f b) = [opcode, b] ∧ (f b).inMinimum = minimumOpcodes.contains opcode ∧
      (f b).record = (f 0x00#8).record
  | .word f => ∀ w, encode (f w) = [opcode, lowByte w, highByte w] ∧
      (f w).inMinimum = minimumOpcodes.contains opcode ∧ (f w).record = (f 0x0000#16).record

/-- An unassigned cell asks nothing. -/
def fitsCell (opcode : Byte) : Option Shape → Prop
  | none => True
  | some shape => shape.Fits opcode

theorem opcodeGrid_fits (n : Fin 256) : fitsCell (BitVec.ofNat 8 n.val) (opcodeGrid.getD n.val none) := by
  fin_cases n <;>
    first
      | exact trivial
      | exact ⟨rfl, rfl⟩
      | exact fun _ => ⟨rfl, rfl, rfl⟩

/-- A dispatched shape completes instructions of the profile that begin with the opcode byte. -/
theorem dispatch_fits {profile : Profile} {opcode : Byte} {shape : Shape}
    (h : dispatch profile opcode = some shape) : shape.Fits opcode ∧ inProfile profile opcode = true := by
  unfold dispatch at h
  split at h
  · have hf := opcodeGrid_fits opcode.toFin
    rw [show opcode.toFin.val = opcode.toNat from rfl, h] at hf
    simpa [fitsCell, *] using hf
  · cases h

/-- The byte an instruction's words begin with. -/
def Instr.opcode (i : Instr) : Byte := (encode i).headD 0x00#8

/-- An instruction is of the profile exactly when its opcode byte is. -/
theorem inProfile_opcode (profile : Profile) (i : Instr) :
    inProfile profile i.opcode = i.wellFormed profile := by
  cases profile
  · cases i <;> rfl
  · rfl

end Sys2Proof
end

