-- ==== Sys2Proof/Laws/Exec.lean ====
section
/-! SUPPORT. What one instruction can do to the bus side of the state: nothing, one bus write, or JSR's two pushes;
and that a step keeps the state sound follows from it. -/

namespace Sys2Proof.Machine

/-- The three things an instruction can do to what the bus owns. -/
def BusOutcome (s t : State) : Prop :=
  s.sameBus t ∨ (∃ a v, (s.write a v).sameBus t) ∨ ∃ w, (s.pushWord w).sameBus t

theorem State.sameBus_refl (s : State) : s.sameBus s := ⟨rfl, rfl, rfl, rfl, rfl, rfl, rfl⟩

theorem State.wf_of_sameBus {s t : State} (h : s.sameBus t) (hs : s.wf) : t.wf := by
  obtain ⟨h1, h2, h3, h4, h5, -, -⟩ := h
  simpa only [State.wf, State.getAddress, h1, h2, h3, h4, h5] using hs

theorem State.read_of_sameBus {s t : State} (h : s.sameBus t) (b : Word) : t.read b = s.read b :=
  State.read_congr b h.1 h.2.1 h.2.2.1

/-- Whatever an instruction does to the bus side, a sound state stays sound. -/
theorem BusOutcome.wf {s t : State} (h : BusOutcome s t) (hs : s.wf) : t.wf := by
  rcases h with h | ⟨a, v, h⟩ | ⟨w, h⟩
  · exact State.wf_of_sameBus h hs
  · exact State.wf_of_sameBus h (State.wf_write a v hs)
  · exact State.wf_of_sameBus h (State.wf_pushWord w hs)

/-! ## The shared operations -/

/-- A routine whose only effect is on registers and flags. -/
theorem next_quiet {r : Result} {s t : State} (hr : r = .next t) (h : s.sameBus t) :
    ∃ t, r = .next t ∧ BusOutcome s t := ⟨t, hr, .inl h⟩

theorem finish_bus {n : Word} {s u : State} (h : BusOutcome s u) : ∃ t, finish n u = .next t ∧ BusOutcome s t :=
  ⟨_, rfl, h⟩

theorem loadA_bus (o : Operand) (s : State) : ∃ t, loadA o s = .next t ∧ BusOutcome s t :=
  next_quiet rfl s.sameBus_refl

theorem loadX_bus (o : Operand) (s : State) : ∃ t, loadX o s = .next t ∧ BusOutcome s t :=
  next_quiet rfl s.sameBus_refl

theorem loadY_bus (o : Operand) (s : State) : ∃ t, loadY o s = .next t ∧ BusOutcome s t :=
  next_quiet rfl s.sameBus_refl

theorem store_bus (o : Operand) (v : Byte) (s : State) : ∃ t, store o v s = .next t ∧ BusOutcome s t :=
  ⟨_, rfl, .inr (.inl ⟨o.addr s, v, (s.write (o.addr s) v).sameBus_refl⟩)⟩

theorem intoA_bus (r : AluOut) (s : State) : ∃ t, intoA r s = .next t ∧ BusOutcome s t :=
  next_quiet rfl s.sameBus_refl

theorem intoX_bus (r : AluOut) (s : State) : ∃ t, intoX r s = .next t ∧ BusOutcome s t :=
  next_quiet rfl s.sameBus_refl

theorem intoY_bus (r : AluOut) (s : State) : ∃ t, intoY r s = .next t ∧ BusOutcome s t :=
  next_quiet rfl s.sameBus_refl

theorem modify_bus (f : Byte → Byte → AluOut) (o : Operand) (s : State) :
    ∃ t, modify f o s = .next t ∧ BusOutcome s t :=
  ⟨_, rfl, .inr (.inl ⟨o.addr s, (f (o.value s) s.p).value, (s.write _ _).sameBus_refl⟩)⟩

theorem accumulate_bus (f : Byte → Byte → Byte → AluOut) (o : Operand) (s : State) :
    ∃ t, accumulate f o s = .next t ∧ BusOutcome s t :=
  next_quiet rfl s.sameBus_refl

theorem compareWith_bus (reg : Byte) (o : Operand) (s : State) :
    ∃ t, compareWith reg o s = .next t ∧ BusOutcome s t :=
  next_quiet rfl s.sameBus_refl

theorem testBits_bus (o : Operand) (s : State) : ∃ t, testBits o s = .next t ∧ BusOutcome s t :=
  next_quiet rfl s.sameBus_refl

theorem shiftA_bus (f : Byte → Byte → AluOut) (s : State) : ∃ t, shiftA f s = .next t ∧ BusOutcome s t :=
  next_quiet rfl s.sameBus_refl

theorem branch_bus (holds : Bool) (rel8 : Byte) (s : State) :
    ∃ t, branch holds rel8 s = .next t ∧ BusOutcome s t := by
  cases holds
  · exact next_quiet rfl s.sameBus_refl
  · exact next_quiet rfl s.sameBus_refl

theorem writeFlag_bus (k : Nat) (b : Bool) (s : State) : ∃ t, writeFlag k b s = .next t ∧ BusOutcome s t :=
  next_quiet rfl s.sameBus_refl

/-- A push followed by part (4) of the step. -/
theorem push_bus (v : Byte) (s : State) : ∃ t, finish 0#16 (s.push v) = .next t ∧ BusOutcome s t :=
  ⟨_, rfl, .inr (.inl ⟨stackAddr s.sp, v, (s.write _ _).sameBus_refl⟩)⟩

/-- Every instruction answers a next state, and says what it may have done to the bus side. -/
theorem exec_bus (i : Instr) (s : State) : ∃ t, exec i s = .next t ∧ BusOutcome s t := by
  cases i
  case ldaImm | ldaZp | ldaZpx | ldaAbs | ldaAbx | ldaAby | ldaIzx | ldaIzy =>
    exact loadA_bus _ s
  case staZp | staZpx | staAbs | staAbx | staAby | staIzx | staIzy | stxZp | stxZpy | stxAbs | styZp
    | styZpx | styAbs =>
    exact store_bus _ _ s
  case ldxImm | ldxZp | ldxZpy | ldxAbs | ldxAby =>
    exact loadX_bus _ s
  case ldyImm | ldyZp | ldyZpx | ldyAbs | ldyAbx =>
    exact loadY_bus _ s
  case tax | inx | tay | txa | tya | tsx | txs | iny | dex | dey | jmpAbs | jmpInd | rts | rti | pla | plp
    | nop | brk =>
    exact next_quiet rfl s.sameBus_refl
  case incZp | incZpx | incAbs | incAbx | decZp | decZpx | decAbs | decAbx | aslZp | aslZpx | aslAbs
    | aslAbx | lsrZp | lsrZpx | lsrAbs | lsrAbx | rolZp | rolZpx | rolAbs | rolAbx | rorZp | rorZpx | rorAbs
    | rorAbx =>
    exact modify_bus _ _ s
  case adcImm | adcZp | adcZpx | adcAbs | adcAbx | adcAby | adcIzx | adcIzy | sbcImm | sbcZp | sbcZpx
    | sbcAbs | sbcAbx | sbcAby | sbcIzx | sbcIzy | andImm | andZp | andZpx | andAbs | andAbx | andAby
    | andIzx | andIzy | oraImm | oraZp | oraZpx | oraAbs | oraAbx | oraAby | oraIzx | oraIzy | eorImm
    | eorZp | eorZpx | eorAbs | eorAbx | eorAby | eorIzx | eorIzy =>
    exact accumulate_bus _ _ s
  case cmpImm | cmpZp | cmpZpx | cmpAbs | cmpAbx | cmpAby | cmpIzx | cmpIzy | cpxImm | cpxZp | cpxAbs
    | cpyImm | cpyZp | cpyAbs =>
    exact compareWith_bus _ _ s
  case bitZp | bitAbs =>
    exact testBits_bus _ s
  case aslAcc | lsrAcc | rolAcc | rorAcc =>
    exact shiftA_bus _ s
  case bccRel | bcsRel | beqRel | bmiRel | bneRel | bplRel | bvcRel | bvsRel =>
    exact branch_bus _ _ s
  case jsrAbs =>
    exact ⟨_, rfl, .inr (.inr ⟨s.pc + 1#16, (s.pushWord _).sameBus_refl⟩)⟩
  case pha | php =>
    exact push_bus _ s
  case clc | cld | cli | clv | sec | sed | sei =>
    exact writeFlag_bus _ _ s

end Sys2Proof.Machine
end

