-- ==== Sys2Proof/Laws/Host.lean ====
section
/-! SUPPORT. The host's operations: what a copied image reads as, and that creation, load and reset keep a sound state
sound. -/

namespace Sys2Proof.Machine

/-- A copied image (R261), read back. -/
theorem Memory.get_copyFrom (m : Memory) (i : Nat) (image : List Byte) (j : Nat) :
    (m.copyFrom i image).get j = if i ≤ j ∧ j < i + image.length then image[j - i]?.getD 0 else m.get j := by
  induction image generalizing m i with
  | nil => simp [Memory.copyFrom]
  | cons v image ih =>
    rw [Memory.copyFrom, ih, Memory.get_set]
    by_cases h : j = i
    · subst h; simp
    · by_cases h2 : i + 1 ≤ j ∧ j < i + 1 + image.length
      · rw [if_pos h2, if_pos (by simp; omega), show j - i = (j - (i + 1)) + 1 by omega]; simp
      · rw [if_neg h2, if_neg h, if_neg (by simp; omega)]

theorem Memory.wf_copyFrom {size : Nat} {m : Memory} {i : Nat} {image : List Byte} (hi : i + image.length ≤ size)
    (h : m.wf size) : (m.copyFrom i image).wf size := by
  induction image generalizing m i with
  | nil => exact h
  | cons v image ih =>
    rw [List.length_cons] at hi
    exact ih (by omega) (Memory.wf_set i v (by omega) h)

theorem State.wf_create {c : Creation} (h : c.wf) : (State.create c).wf := by
  refine ⟨h.1, h.2.1, Memory.wf_nil _, ?_⟩
  show (wordOf (lowByte c.initLatch) (highByte c.initLatch)).toNat ≤ _
  rw [wordOf_lowByte_highByte]
  exact h.2.2

theorem State.wf_hostReset {s : State} (h : s.wf) : s.hostReset.wf := h

theorem State.wf_load {s t : State} {image : List Byte} (h : s.load image = .ok t) (hs : s.wf) : t.wf := by
  unfold State.load at h
  simp only [] at h
  split at h
  · cases h
  · rename_i hn
    injection h with h
    subst h
    refine State.wf_write _ _ (State.wf_write _ _ ⟨hs.1, hs.2.1, Memory.wf_copyFrom ?_ hs.2.2.1, hs.2.2.2⟩)
    simp only [Config.romSize, Config.loadAddr, Config.romBase, BitVec.toNat_ofNat] at hn ⊢
    omega

end Sys2Proof.Machine
end

