-- ==== Sys2Proof/Laws/Step.lean ====
section
/-! SUPPORT. The step: the fetch is the decoder on the three bytes at `PC`, and everything a step can answer. -/

namespace Sys2Proof.Machine

/-- The three bytes at `PC`, as many as the longest instruction has. -/
def State.bytesAtPc (s : State) : List Byte := [s.read s.pc, s.read (s.pc + 1#16), s.read (s.pc + 2#16)]

/-- The step fetches what the decoder reads from the bytes at `PC` (R92). -/
theorem State.fetch_eq_decode (profile : Profile) (s : State) :
    s.fetch profile = match decode profile s.bytesAtPc with
      | .ok (i, _) => some i
      | .error _ => none := by
  have h2 : s.pc + 1#16 + 1#16 = s.pc + 2#16 := by rw [BitVec.add_assoc]; rfl
  unfold State.fetch State.bytesAtPc decode
  cases hd : dispatch profile (s.read s.pc) with
  | none => simp [hd]
  | some shape => cases shape <;> simp [hd, State.readWord, h2]

theorem stepIn_running {profile : Profile} {s : State} (h : s.runState = .running) :
    stepIn profile s = s.runningStep profile := by
  simp [stepIn, h]

theorem stepIn_halted {profile : Profile} {s : State} (h : s.runState = .halted) :
    stepIn profile s = .next s := by
  simp [stepIn, h]

theorem stepIn_faulted {profile : Profile} {s : State} {c : Fault} (h : s.runState = .faulted c) :
    stepIn profile s = .fault c := by
  simp [stepIn, h]

theorem State.runningStep_fetched {profile : Profile} {s : State} {i : Instr} (h : s.fetch profile = some i) :
    s.runningStep profile = exec i s.pastOpcode := by
  simp [State.runningStep, h]

theorem State.runningStep_unassigned {profile : Profile} {s : State} (h : s.fetch profile = none) :
    s.runningStep profile = .next (s.pastOpcode.raise (.unimplementedOpcode (s.read s.pc) s.pc)) := by
  simp [State.runningStep, h]

/-- Everything a step that answers a next state can have done. -/
theorem stepIn_next_cases {profile : Profile} {s t : State} (h : stepIn profile s = .next t) :
    (s.runState = .halted ∧ t = s) ∨
    (s.runState = .running ∧ ∃ i, s.fetch profile = some i ∧ exec i s.pastOpcode = .next t) ∨
    (s.runState = .running ∧ s.fetch profile = none ∧
      t = s.pastOpcode.raise (.unimplementedOpcode (s.read s.pc) s.pc)) := by
  cases hr : s.runState with
  | halted =>
    rw [stepIn_halted hr] at h
    exact .inl ⟨rfl, by injection h with h; exact h.symm⟩
  | faulted c => rw [stepIn_faulted hr] at h; cases h
  | running =>
    rw [stepIn_running hr] at h
    cases hf : s.fetch profile with
    | some i =>
      rw [State.runningStep_fetched hf] at h
      exact .inr (.inl ⟨rfl, i, rfl, h⟩)
    | none =>
      rw [State.runningStep_unassigned hf] at h
      exact .inr (.inr ⟨rfl, rfl, by injection h with h; exact h.symm⟩)

end Sys2Proof.Machine
end

