-- ==== Sys2Proof/Laws/Trace.lean ====
section
/-! SUPPORT. The access lists: making accesses one list after another, and that moving `PC` past the opcode changes no
access of a given address. -/

namespace Sys2Proof.Machine

@[simp] theorem State.perform_nil (s : State) : s.perform [] = s := rfl

@[simp] theorem State.perform_read (s : State) (a : Word) (v : Byte) (l : List Access) :
    s.perform (.read a v :: l) = s.perform l := rfl

@[simp] theorem State.perform_write (s : State) (a : Word) (v : Byte) (l : List Access) :
    s.perform (.write a v :: l) = (s.write a v).perform l := rfl

@[simp] theorem State.perform_readAccess (s t : State) (a : Word) (l : List Access) :
    s.perform (t.readAccess a :: l) = s.perform l := rfl

theorem State.perform_append (s : State) (k l : List Access) : s.perform (k ++ l) = (s.perform k).perform l := by
  induction k generalizing s with
  | nil => rfl
  | cons x k ih => cases x <;> exact ih _

@[simp] theorem State.readAccess_pastOpcode (s : State) (a : Word) :
    s.pastOpcode.readAccess a = s.readAccess a := rfl

end Sys2Proof.Machine
end

