-- ==== Sys2Proof/Tests/Slice0.lean ====
section
/-! SUPPORT. The model's own tests: the well-formedness check, a written-out word for every row of the opcode table,
single steps against the vectors of spec/95, the shim, bus and host vectors, and for every obligation with hypotheses a
witness that meets them. Expected values are the spec's (spec/95 gives the `V` numbers), not the model's. -/

namespace Sys2Proof.Tests

open Machine Claims

/-! ## Helpers -/

/-- The registers of a test, zero unless given, `PC` 0x8000 unless given. -/
structure Regs where
  a : Byte := 0x00#8
  x : Byte := 0x00#8
  y : Byte := 0x00#8
  p : Byte := 0x00#8
  sp : Byte := 0x00#8
  pc : Word := 0x8000#16
deriving DecidableEq, Repr

def regsOf (t : State) : Regs := { a := t.a, x := t.x, y := t.y, p := t.p, sp := t.sp, pc := t.pc }

/-- A RUNNING machine with these registers, these bytes at `PC`, and these bytes elsewhere. -/
def cpu (r : Regs) (code : List Byte) (bytes : List (Word × Byte) := []) : State :=
  (code.zipIdx.map (fun c => (r.pc + BitVec.ofNat 16 c.2, c.1)) ++ bytes).foldl (fun s c => s.poke c.1 c.2)
    { State.reset with a := r.a, x := r.x, y := r.y, p := r.p, sp := r.sp, pc := r.pc, runState := .running }

/-- The state a result goes on in. -/
def nextOf : Result → Option State
  | .next t => some t
  | .fault _ => none
  | .refused _ => none

/-- One step: the registers and `run_state` after it, the bytes at the addresses asked for, and the bus accesses. -/
def stepOnce (profile : Profile) (r : Regs) (code : List Byte) (bytes : List (Word × Byte)) (look : List Word) :
    Option (Regs × RunState × List Byte × List Access) :=
  let s := cpu r code bytes
  (nextOf (stepIn profile s)).map fun t => (regsOf t, t.runState, look.map t.read, s.stepAccesses profile)

/-- A shim with this latch, and the toggle. -/
def shim (latch : Word) (expectHi : Bool) : State :=
  { State.reset with latchHi := highByte latch, latchLo := lowByte latch, latchExpectHi := expectHi }

/-- The latch and the toggle after some writes of the latch. -/
def latchAfterWrites (s : State) (bytes : List Byte) : Word × Bool :=
  let t := bytes.foldl State.writeAddressLatch s
  (t.getAddress, t.latchExpectHi)

/-- Byte writes through the bus, in order. -/
def writes (s : State) (ws : List (Word × Byte)) : State := ws.foldl (fun s c => s.write c.1 c.2) s

/-- The state a load gives, or the state before a refused one. -/
def loaded (s : State) (image : List Byte) : State :=
  match s.load image with
  | .ok t => t
  | .error _ => s

/-! ## Well-formedness (R4, R87): the ill-formed terms are refused -/

theorem test_wf_minimum_refuses_nop : Instr.wellFormed .minimum .nop = false := by decide

theorem test_wf_minimum_refuses_other_forms :
    Instr.wellFormed .minimum (.ldxImm 0x01#8) = false ∧ Instr.wellFormed .minimum .txa = false ∧
    Instr.wellFormed .minimum (.styAbs 0x2000#16) = false := by decide

theorem test_wf_accepts :
    Instr.wellFormed .minimum (.staIzy 0x10#8) = true ∧ Instr.wellFormed .minimum .brk = true ∧
    Instr.wellFormed .full .nop = true := by decide

/-! ## Decoding: every row's word, from the encodings of spec/30 and the instruction rules -/
/-! ### Load and store -/

theorem test_decode_lda :
    decodeTableWord 16 0x34A1 = some (.ldaIzx 0x34#8) ∧
    decodeTableWord 16 0x34A5 = some (.ldaZp 0x34#8) ∧
    decodeTableWord 16 0x34A9 = some (.ldaImm 0x34#8) ∧
    decodeTableWord 24 0x1234AD = some (.ldaAbs 0x1234#16) ∧
    decodeTableWord 16 0x34B1 = some (.ldaIzy 0x34#8) ∧
    decodeTableWord 16 0x34B5 = some (.ldaZpx 0x34#8) ∧
    decodeTableWord 24 0x1234B9 = some (.ldaAby 0x1234#16) ∧
    decodeTableWord 24 0x1234BD = some (.ldaAbx 0x1234#16) := by
  decide

theorem test_decode_sta :
    decodeTableWord 16 0x3481 = some (.staIzx 0x34#8) ∧
    decodeTableWord 16 0x3485 = some (.staZp 0x34#8) ∧
    decodeTableWord 24 0x12348D = some (.staAbs 0x1234#16) ∧
    decodeTableWord 16 0x3491 = some (.staIzy 0x34#8) ∧
    decodeTableWord 16 0x3495 = some (.staZpx 0x34#8) ∧
    decodeTableWord 24 0x123499 = some (.staAby 0x1234#16) ∧
    decodeTableWord 24 0x12349D = some (.staAbx 0x1234#16) := by
  decide

theorem test_decode_ldx :
    decodeTableWord 16 0x34A2 = some (.ldxImm 0x34#8) ∧
    decodeTableWord 16 0x34A6 = some (.ldxZp 0x34#8) ∧
    decodeTableWord 24 0x1234AE = some (.ldxAbs 0x1234#16) ∧
    decodeTableWord 16 0x34B6 = some (.ldxZpy 0x34#8) ∧
    decodeTableWord 24 0x1234BE = some (.ldxAby 0x1234#16) := by
  decide

theorem test_decode_ldy :
    decodeTableWord 16 0x34A0 = some (.ldyImm 0x34#8) ∧
    decodeTableWord 16 0x34A4 = some (.ldyZp 0x34#8) ∧
    decodeTableWord 24 0x1234AC = some (.ldyAbs 0x1234#16) ∧
    decodeTableWord 16 0x34B4 = some (.ldyZpx 0x34#8) ∧
    decodeTableWord 24 0x1234BC = some (.ldyAbx 0x1234#16) := by
  decide

theorem test_decode_stx :
    decodeTableWord 16 0x3486 = some (.stxZp 0x34#8) ∧
    decodeTableWord 24 0x12348E = some (.stxAbs 0x1234#16) ∧
    decodeTableWord 16 0x3496 = some (.stxZpy 0x34#8) := by
  decide

theorem test_decode_sty :
    decodeTableWord 16 0x3484 = some (.styZp 0x34#8) ∧
    decodeTableWord 24 0x12348C = some (.styAbs 0x1234#16) ∧
    decodeTableWord 16 0x3494 = some (.styZpx 0x34#8) := by
  decide


/-! ### Transfers, increments and decrements -/

theorem test_decode_inc :
    decodeTableWord 16 0x34E6 = some (.incZp 0x34#8) ∧
    decodeTableWord 24 0x1234EE = some (.incAbs 0x1234#16) ∧
    decodeTableWord 16 0x34F6 = some (.incZpx 0x34#8) ∧
    decodeTableWord 24 0x1234FE = some (.incAbx 0x1234#16) := by
  decide

theorem test_decode_dec :
    decodeTableWord 16 0x34C6 = some (.decZp 0x34#8) ∧
    decodeTableWord 24 0x1234CE = some (.decAbs 0x1234#16) ∧
    decodeTableWord 16 0x34D6 = some (.decZpx 0x34#8) ∧
    decodeTableWord 24 0x1234DE = some (.decAbx 0x1234#16) := by
  decide

theorem test_decode_transfers_1 :
    decodeTableWord 8 0xAA = some .tax ∧
    decodeTableWord 8 0xE8 = some .inx ∧
    decodeTableWord 8 0xA8 = some .tay ∧
    decodeTableWord 8 0x8A = some .txa ∧
    decodeTableWord 8 0x98 = some .tya ∧
    decodeTableWord 8 0xBA = some .tsx ∧
    decodeTableWord 8 0x9A = some .txs ∧
    decodeTableWord 8 0xC8 = some .iny := by
  decide

theorem test_decode_transfers_2 :
    decodeTableWord 8 0xCA = some .dex ∧
    decodeTableWord 8 0x88 = some .dey := by
  decide


/-! ### Arithmetic and logic -/

theorem test_decode_adc :
    decodeTableWord 16 0x3461 = some (.adcIzx 0x34#8) ∧
    decodeTableWord 16 0x3465 = some (.adcZp 0x34#8) ∧
    decodeTableWord 16 0x3469 = some (.adcImm 0x34#8) ∧
    decodeTableWord 24 0x12346D = some (.adcAbs 0x1234#16) ∧
    decodeTableWord 16 0x3471 = some (.adcIzy 0x34#8) ∧
    decodeTableWord 16 0x3475 = some (.adcZpx 0x34#8) ∧
    decodeTableWord 24 0x123479 = some (.adcAby 0x1234#16) ∧
    decodeTableWord 24 0x12347D = some (.adcAbx 0x1234#16) := by
  decide

theorem test_decode_sbc :
    decodeTableWord 16 0x34E1 = some (.sbcIzx 0x34#8) ∧
    decodeTableWord 16 0x34E5 = some (.sbcZp 0x34#8) ∧
    decodeTableWord 16 0x34E9 = some (.sbcImm 0x34#8) ∧
    decodeTableWord 24 0x1234ED = some (.sbcAbs 0x1234#16) ∧
    decodeTableWord 16 0x34F1 = some (.sbcIzy 0x34#8) ∧
    decodeTableWord 16 0x34F5 = some (.sbcZpx 0x34#8) ∧
    decodeTableWord 24 0x1234F9 = some (.sbcAby 0x1234#16) ∧
    decodeTableWord 24 0x1234FD = some (.sbcAbx 0x1234#16) := by
  decide

theorem test_decode_and :
    decodeTableWord 16 0x3421 = some (.andIzx 0x34#8) ∧
    decodeTableWord 16 0x3425 = some (.andZp 0x34#8) ∧
    decodeTableWord 16 0x3429 = some (.andImm 0x34#8) ∧
    decodeTableWord 24 0x12342D = some (.andAbs 0x1234#16) ∧
    decodeTableWord 16 0x3431 = some (.andIzy 0x34#8) ∧
    decodeTableWord 16 0x3435 = some (.andZpx 0x34#8) ∧
    decodeTableWord 24 0x123439 = some (.andAby 0x1234#16) ∧
    decodeTableWord 24 0x12343D = some (.andAbx 0x1234#16) := by
  decide

theorem test_decode_ora :
    decodeTableWord 16 0x3401 = some (.oraIzx 0x34#8) ∧
    decodeTableWord 16 0x3405 = some (.oraZp 0x34#8) ∧
    decodeTableWord 16 0x3409 = some (.oraImm 0x34#8) ∧
    decodeTableWord 24 0x12340D = some (.oraAbs 0x1234#16) ∧
    decodeTableWord 16 0x3411 = some (.oraIzy 0x34#8) ∧
    decodeTableWord 16 0x3415 = some (.oraZpx 0x34#8) ∧
    decodeTableWord 24 0x123419 = some (.oraAby 0x1234#16) ∧
    decodeTableWord 24 0x12341D = some (.oraAbx 0x1234#16) := by
  decide

theorem test_decode_eor :
    decodeTableWord 16 0x3441 = some (.eorIzx 0x34#8) ∧
    decodeTableWord 16 0x3445 = some (.eorZp 0x34#8) ∧
    decodeTableWord 16 0x3449 = some (.eorImm 0x34#8) ∧
    decodeTableWord 24 0x12344D = some (.eorAbs 0x1234#16) ∧
    decodeTableWord 16 0x3451 = some (.eorIzy 0x34#8) ∧
    decodeTableWord 16 0x3455 = some (.eorZpx 0x34#8) ∧
    decodeTableWord 24 0x123459 = some (.eorAby 0x1234#16) ∧
    decodeTableWord 24 0x12345D = some (.eorAbx 0x1234#16) := by
  decide

theorem test_decode_cmp :
    decodeTableWord 16 0x34C1 = some (.cmpIzx 0x34#8) ∧
    decodeTableWord 16 0x34C5 = some (.cmpZp 0x34#8) ∧
    decodeTableWord 16 0x34C9 = some (.cmpImm 0x34#8) ∧
    decodeTableWord 24 0x1234CD = some (.cmpAbs 0x1234#16) ∧
    decodeTableWord 16 0x34D1 = some (.cmpIzy 0x34#8) ∧
    decodeTableWord 16 0x34D5 = some (.cmpZpx 0x34#8) ∧
    decodeTableWord 24 0x1234D9 = some (.cmpAby 0x1234#16) ∧
    decodeTableWord 24 0x1234DD = some (.cmpAbx 0x1234#16) := by
  decide

theorem test_decode_cpx :
    decodeTableWord 16 0x34E0 = some (.cpxImm 0x34#8) ∧
    decodeTableWord 16 0x34E4 = some (.cpxZp 0x34#8) ∧
    decodeTableWord 24 0x1234EC = some (.cpxAbs 0x1234#16) := by
  decide

theorem test_decode_cpy :
    decodeTableWord 16 0x34C0 = some (.cpyImm 0x34#8) ∧
    decodeTableWord 16 0x34C4 = some (.cpyZp 0x34#8) ∧
    decodeTableWord 24 0x1234CC = some (.cpyAbs 0x1234#16) := by
  decide

theorem test_decode_arithmetic_1 :
    decodeTableWord 16 0x3424 = some (.bitZp 0x34#8) ∧
    decodeTableWord 24 0x12342C = some (.bitAbs 0x1234#16) := by
  decide


/-! ### Shifts and rotates -/

theorem test_decode_asl :
    decodeTableWord 16 0x3406 = some (.aslZp 0x34#8) ∧
    decodeTableWord 8 0x0A = some .aslAcc ∧
    decodeTableWord 24 0x12340E = some (.aslAbs 0x1234#16) ∧
    decodeTableWord 16 0x3416 = some (.aslZpx 0x34#8) ∧
    decodeTableWord 24 0x12341E = some (.aslAbx 0x1234#16) := by
  decide

theorem test_decode_lsr :
    decodeTableWord 16 0x3446 = some (.lsrZp 0x34#8) ∧
    decodeTableWord 8 0x4A = some .lsrAcc ∧
    decodeTableWord 24 0x12344E = some (.lsrAbs 0x1234#16) ∧
    decodeTableWord 16 0x3456 = some (.lsrZpx 0x34#8) ∧
    decodeTableWord 24 0x12345E = some (.lsrAbx 0x1234#16) := by
  decide

theorem test_decode_rol :
    decodeTableWord 16 0x3426 = some (.rolZp 0x34#8) ∧
    decodeTableWord 8 0x2A = some .rolAcc ∧
    decodeTableWord 24 0x12342E = some (.rolAbs 0x1234#16) ∧
    decodeTableWord 16 0x3436 = some (.rolZpx 0x34#8) ∧
    decodeTableWord 24 0x12343E = some (.rolAbx 0x1234#16) := by
  decide

theorem test_decode_ror :
    decodeTableWord 16 0x3466 = some (.rorZp 0x34#8) ∧
    decodeTableWord 8 0x6A = some .rorAcc ∧
    decodeTableWord 24 0x12346E = some (.rorAbs 0x1234#16) ∧
    decodeTableWord 16 0x3476 = some (.rorZpx 0x34#8) ∧
    decodeTableWord 24 0x12347E = some (.rorAbx 0x1234#16) := by
  decide


/-! ### Control transfer -/

theorem test_decode_control_1 :
    decodeTableWord 16 0x3490 = some (.bccRel 0x34#8) ∧
    decodeTableWord 16 0x34B0 = some (.bcsRel 0x34#8) ∧
    decodeTableWord 16 0x34F0 = some (.beqRel 0x34#8) ∧
    decodeTableWord 16 0x3430 = some (.bmiRel 0x34#8) ∧
    decodeTableWord 16 0x34D0 = some (.bneRel 0x34#8) ∧
    decodeTableWord 16 0x3410 = some (.bplRel 0x34#8) ∧
    decodeTableWord 16 0x3450 = some (.bvcRel 0x34#8) ∧
    decodeTableWord 16 0x3470 = some (.bvsRel 0x34#8) := by
  decide

theorem test_decode_control_2 :
    decodeTableWord 24 0x12344C = some (.jmpAbs 0x1234#16) ∧
    decodeTableWord 24 0x12346C = some (.jmpInd 0x1234#16) ∧
    decodeTableWord 24 0x123420 = some (.jsrAbs 0x1234#16) ∧
    decodeTableWord 8 0x60 = some .rts ∧
    decodeTableWord 8 0x40 = some .rti := by
  decide


/-! ### Stack, flags and system -/

theorem test_decode_stack_1 :
    decodeTableWord 8 0x48 = some .pha ∧
    decodeTableWord 8 0x08 = some .php ∧
    decodeTableWord 8 0x68 = some .pla ∧
    decodeTableWord 8 0x28 = some .plp ∧
    decodeTableWord 8 0x18 = some .clc ∧
    decodeTableWord 8 0xD8 = some .cld ∧
    decodeTableWord 8 0x58 = some .cli ∧
    decodeTableWord 8 0xB8 = some .clv := by
  decide

theorem test_decode_stack_2 :
    decodeTableWord 8 0x38 = some .sec ∧
    decodeTableWord 8 0xF8 = some .sed ∧
    decodeTableWord 8 0x78 = some .sei ∧
    decodeTableWord 8 0xEA = some .nop ∧
    decodeTableWord 8 0x00 = some .brk := by
  decide

/-- Unassigned bytes and bytes outside the profile are rejected by name (R87). -/
theorem test_decode_rejects :
    decode .full [0x89#8, 0x00#8] = .error (.unassignedOpcode 0x89#8) ∧
    decode .minimum [0xEA#8] = .error (.unassignedOpcode 0xEA#8) ∧
    decodeTableWord 16 0x0002 = none := by decide

/-- A short operand is refused. -/
theorem test_decode_truncated : (decode .full [0xAD#8, 0x34#8]).toOption = none := by decide

/-- `withFetchWord` places a table word where the next step fetches. -/
theorem test_withFetchWord_runs :
    (nextOf (step (State.reset.withFetchWord 16 0x05A9))).map (fun t => (t.a, t.pc)) = some (0x05#8, 0x0002#16) := by
  decide

/-! ## Single steps -/

/-- V1: `LDA #$00`. -/
theorem test_V1_ldaImm :
    stepOnce .minimum { a := 0x55#8, p := 0x81#8 } [0xA9#8, 0x00#8] [] [] =
    some ({ p := 0x03#8, pc := 0x8002#16 }, .running, [],
      [.read 0x8000#16 0xA9#8, .read 0x8001#16 0x00#8]) := by
  decide

/-- V2: `LDA #$80`. -/
theorem test_V2_ldaImm :
    stepOnce .minimum { p := 0x02#8 } [0xA9#8, 0x80#8] [] [] =
    some ({ a := 0x80#8, p := 0x80#8, pc := 0x8002#16 }, .running, [],
      [.read 0x8000#16 0xA9#8, .read 0x8001#16 0x80#8]) := by
  decide

/-- V3: `LDA $FF,X`. -/
theorem test_V3_ldaZpx :
    stepOnce .minimum { x := 0x02#8 } [0xB5#8, 0xFF#8] [(0x0001#16, 0x77#8), (0x0101#16, 0x99#8)] [] =
    some ({ a := 0x77#8, x := 0x02#8, pc := 0x8002#16 }, .running, [],
      [.read 0x8000#16 0xB5#8, .read 0x8001#16 0xFF#8, .read 0x0001#16 0x77#8]) := by
  decide

/-- V4: `LDA $FFFF,X`. -/
theorem test_V4_ldaAbx :
    stepOnce .minimum { x := 0x01#8 } [0xBD#8, 0xFF#8, 0xFF#8] [(0x0000#16, 0x42#8)] [] =
    some ({ a := 0x42#8, x := 0x01#8, pc := 0x8003#16 }, .running, [],
      [.read 0x8000#16 0xBD#8, .read 0x8001#16 0xFF#8, .read 0x8002#16 0xFF#8, .read 0x0000#16 0x42#8]) := by
  decide

/-- V5: `LDA $80F0,Y`. -/
theorem test_V5_ldaAby :
    stepOnce .full { y := 0x20#8 } [0xB9#8, 0xF0#8, 0x80#8] [(0x8110#16, 0x9C#8)] [] =
    some ({ a := 0x9C#8, y := 0x20#8, p := 0x80#8, pc := 0x8003#16 }, .running, [],
      [.read 0x8000#16 0xB9#8, .read 0x8001#16 0xF0#8, .read 0x8002#16 0x80#8, .read 0x8110#16 0x9C#8]) := by
  decide

/-- V6: `LDA ($FE,X)`. -/
theorem test_V6_ldaIzx :
    stepOnce .minimum { x := 0x01#8 } [0xA1#8, 0xFE#8]
      [(0x00FF#16, 0x34#8), (0x0000#16, 0x12#8), (0x0100#16, 0x56#8), (0x1234#16, 0xAB#8)] [] =
    some ({ a := 0xAB#8, x := 0x01#8, p := 0x80#8, pc := 0x8002#16 }, .running, [],
      [.read 0x8000#16 0xA1#8, .read 0x8001#16 0xFE#8, .read 0x00FF#16 0x34#8,
       .read 0x0000#16 0x12#8, .read 0x1234#16 0xAB#8]) := by
  decide

/-- V7: `LDA ($FF),Y`. -/
theorem test_V7_ldaIzy :
    stepOnce .minimum { y := 0x10#8 } [0xB1#8, 0xFF#8]
      [(0x00FF#16, 0xF8#8), (0x0000#16, 0x02#8), (0x0100#16, 0x07#8), (0x0308#16, 0x5A#8)] [] =
    some ({ a := 0x5A#8, y := 0x10#8, pc := 0x8002#16 }, .running, [],
      [.read 0x8000#16 0xB1#8, .read 0x8001#16 0xFF#8, .read 0x00FF#16 0xF8#8,
       .read 0x0000#16 0x02#8, .read 0x0308#16 0x5A#8]) := by
  decide

/-- V8: `LDA ($10),Y`. -/
theorem test_V8_ldaIzy :
    stepOnce .full { y := 0xFF#8 } [0xB1#8, 0x10#8]
      [(0x0010#16, 0xFF#8), (0x0011#16, 0xFF#8), (0x00FE#16, 0x21#8)] [] =
    some ({ a := 0x21#8, y := 0xFF#8, pc := 0x8002#16 }, .running, [],
      [.read 0x8000#16 0xB1#8, .read 0x8001#16 0x10#8, .read 0x0010#16 0xFF#8,
       .read 0x0011#16 0xFF#8, .read 0x00FE#16 0x21#8]) := by
  decide

/-- V10: `LDA $1801`. -/
theorem test_V10_ldaAbs :
    stepOnce .full {} [0xAD#8, 0x01#8, 0x18#8] [(0x0001#16, 0x6E#8)] [] =
    some ({ a := 0x6E#8, pc := 0x8003#16 }, .running, [],
      [.read 0x8000#16 0xAD#8, .read 0x8001#16 0x01#8, .read 0x8002#16 0x18#8, .read 0x1801#16 0x6E#8]) := by
  decide

/-- V11: `LDA $2002`. -/
theorem test_V11_ldaAbs :
    stepOnce .full {} [0xAD#8, 0x02#8, 0x20#8] [(0x2002#16, 0x80#8)] [] =
    some ({ a := 0x80#8, p := 0x80#8, pc := 0x8003#16 }, .running, [],
      [.read 0x8000#16 0xAD#8, .read 0x8001#16 0x02#8, .read 0x8002#16 0x20#8, .read 0x2002#16 0x80#8]) := by
  decide

/-- V12: `STA $10`. -/
theorem test_V12_staZp :
    stepOnce .minimum { p := 0x80#8 } [0x85#8, 0x10#8] [] [0x0010#16] =
    some ({ p := 0x80#8, pc := 0x8002#16 }, .running, [0x00#8],
      [.read 0x8000#16 0x85#8, .read 0x8001#16 0x10#8, .write 0x0010#16 0x00#8]) := by
  decide

/-- V13: `STA $9000`. -/
theorem test_V13_staAbs :
    stepOnce .full { a := 0xEA#8 } [0x8D#8, 0x00#8, 0x90#8] [] [0x9000#16] =
    some ({ a := 0xEA#8, pc := 0x8003#16 }, .running, [0xEA#8],
      [.read 0x8000#16 0x8D#8, .read 0x8001#16 0x00#8, .read 0x8002#16 0x90#8, .write 0x9000#16 0xEA#8]) := by
  decide

/-- V14: `STA $4000`. -/
theorem test_V14_staAbs :
    stepOnce .full { a := 0xEA#8 } [0x8D#8, 0x00#8, 0x40#8] [] [] =
    some ({ a := 0xEA#8, pc := 0x8003#16 }, .running, [],
      [.read 0x8000#16 0x8D#8, .read 0x8001#16 0x00#8, .read 0x8002#16 0x40#8, .write 0x4000#16 0xEA#8]) := by
  decide

/-- V15: `STA $0FFF,X`. -/
theorem test_V15_staAbx :
    stepOnce .full { a := 0x11#8, x := 0x01#8 } [0x9D#8, 0xFF#8, 0x0F#8] [] [0x1000#16] =
    some ({ a := 0x11#8, x := 0x01#8, pc := 0x8003#16 }, .running, [0x11#8],
      [.read 0x8000#16 0x9D#8, .read 0x8001#16 0xFF#8, .read 0x8002#16 0x0F#8, .write 0x1000#16 0x11#8]) := by
  decide

/-- V16: `LDX $F0,Y`. -/
theorem test_V16_ldxZpy :
    stepOnce .full { y := 0x20#8 } [0xB6#8, 0xF0#8] [(0x0010#16, 0xFF#8)] [] =
    some ({ x := 0xFF#8, y := 0x20#8, p := 0x80#8, pc := 0x8002#16 }, .running, [],
      [.read 0x8000#16 0xB6#8, .read 0x8001#16 0xF0#8, .read 0x0010#16 0xFF#8]) := by
  decide

/-- V17: `LDY $1234,X`. -/
theorem test_V17_ldyAbx :
    stepOnce .full { x := 0x04#8, y := 0x09#8 } [0xBC#8, 0x34#8, 0x12#8] [(0x1238#16, 0x00#8)] [] =
    some ({ x := 0x04#8, p := 0x02#8, pc := 0x8003#16 }, .running, [],
      [.read 0x8000#16 0xBC#8, .read 0x8001#16 0x34#8, .read 0x8002#16 0x12#8, .read 0x1238#16 0x00#8]) := by
  decide

/-- V18: `STX $FF,Y`. -/
theorem test_V18_stxZpy :
    stepOnce .full { x := 0x5A#8, y := 0x01#8 } [0x96#8, 0xFF#8] [] [0x0000#16] =
    some ({ x := 0x5A#8, y := 0x01#8, pc := 0x8002#16 }, .running, [0x5A#8],
      [.read 0x8000#16 0x96#8, .read 0x8001#16 0xFF#8, .write 0x0000#16 0x5A#8]) := by
  decide

/-- V19: `STY $2000`. -/
theorem test_V19_styAbs :
    stepOnce .full { y := 0x04#8 } [0x8C#8, 0x00#8, 0x20#8] [] [0x2000#16] =
    some ({ y := 0x04#8, pc := 0x8003#16 }, .running, [0x04#8],
      [.read 0x8000#16 0x8C#8, .read 0x8001#16 0x00#8, .read 0x8002#16 0x20#8, .write 0x2000#16 0x04#8]) := by
  decide

/-- V20: `TAX`. -/
theorem test_V20_tax :
    stepOnce .minimum { a := 0x80#8, x := 0x01#8, p := 0x43#8 } [0xAA#8] [] [] =
    some ({ a := 0x80#8, x := 0x80#8, p := 0xC1#8, pc := 0x8001#16 }, .running, [],
      [.read 0x8000#16 0xAA#8]) := by
  decide

/-- V21: `TAY`. -/
theorem test_V21_tay :
    stepOnce .full { y := 0x07#8 } [0xA8#8] [] [] =
    some ({ p := 0x02#8, pc := 0x8001#16 }, .running, [],
      [.read 0x8000#16 0xA8#8]) := by
  decide

/-- V22: `TXA`. -/
theorem test_V22_txa :
    stepOnce .full { a := 0x80#8, x := 0x7F#8, p := 0x80#8 } [0x8A#8] [] [] =
    some ({ a := 0x7F#8, x := 0x7F#8, pc := 0x8001#16 }, .running, [],
      [.read 0x8000#16 0x8A#8]) := by
  decide

/-- V23: `TYA`. -/
theorem test_V23_tya :
    stepOnce .full { y := 0xFF#8 } [0x98#8] [] [] =
    some ({ a := 0xFF#8, y := 0xFF#8, p := 0x80#8, pc := 0x8001#16 }, .running, [],
      [.read 0x8000#16 0x98#8]) := by
  decide

/-- V24: `TSX`. -/
theorem test_V24_tsx :
    stepOnce .full { x := 0x05#8 } [0xBA#8] [] [] =
    some ({ p := 0x02#8, pc := 0x8001#16 }, .running, [],
      [.read 0x8000#16 0xBA#8]) := by
  decide

/-- V25: `TXS`. -/
theorem test_V25_txs :
    stepOnce .full { p := 0x80#8, sp := 0xFF#8 } [0x9A#8] [] [] =
    some ({ p := 0x80#8, pc := 0x8001#16 }, .running, [],
      [.read 0x8000#16 0x9A#8]) := by
  decide

/-- V26: `INX`. -/
theorem test_V26_inx :
    stepOnce .minimum { x := 0xFF#8, p := 0x80#8 } [0xE8#8] [] [] =
    some ({ p := 0x02#8, pc := 0x8001#16 }, .running, [],
      [.read 0x8000#16 0xE8#8]) := by
  decide

/-- V27: `INX`. -/
theorem test_V27_inx :
    stepOnce .minimum { x := 0x7F#8 } [0xE8#8] [] [] =
    some ({ x := 0x80#8, p := 0x80#8, pc := 0x8001#16 }, .running, [],
      [.read 0x8000#16 0xE8#8]) := by
  decide

/-- V28: `INY`. -/
theorem test_V28_iny :
    stepOnce .full { y := 0xFF#8 } [0xC8#8] [] [] =
    some ({ p := 0x02#8, pc := 0x8001#16 }, .running, [],
      [.read 0x8000#16 0xC8#8]) := by
  decide

/-- V29: `DEX`. -/
theorem test_V29_dex :
    stepOnce .full {} [0xCA#8] [] [] =
    some ({ x := 0xFF#8, p := 0x80#8, pc := 0x8001#16 }, .running, [],
      [.read 0x8000#16 0xCA#8]) := by
  decide

/-- V30: `DEY`. -/
theorem test_V30_dey :
    stepOnce .full { y := 0x01#8 } [0x88#8] [] [] =
    some ({ p := 0x02#8, pc := 0x8001#16 }, .running, [],
      [.read 0x8000#16 0x88#8]) := by
  decide

/-- V31: `INC $20`. -/
theorem test_V31_incZp :
    stepOnce .full { p := 0x01#8 } [0xE6#8, 0x20#8] [(0x0020#16, 0xFF#8)] [0x0020#16] =
    some ({ p := 0x03#8, pc := 0x8002#16 }, .running, [0x00#8],
      [.read 0x8000#16 0xE6#8, .read 0x8001#16 0x20#8, .read 0x0020#16 0xFF#8, .write 0x0020#16 0x00#8]) := by
  decide

/-- V32: `INC $12FF,X`. -/
theorem test_V32_incAbx :
    stepOnce .full { x := 0x01#8 } [0xFE#8, 0xFF#8, 0x12#8] [(0x1300#16, 0x7F#8)] [0x1300#16] =
    some ({ x := 0x01#8, p := 0x80#8, pc := 0x8003#16 }, .running, [0x80#8],
      [.read 0x8000#16 0xFE#8, .read 0x8001#16 0xFF#8, .read 0x8002#16 0x12#8,
       .read 0x1300#16 0x7F#8, .write 0x1300#16 0x80#8]) := by
  decide

/-- V33: `DEC $0300`. -/
theorem test_V33_decAbs :
    stepOnce .full {} [0xCE#8, 0x00#8, 0x03#8] [(0x0300#16, 0x00#8)] [0x0300#16] =
    some ({ p := 0x80#8, pc := 0x8003#16 }, .running, [0xFF#8],
      [.read 0x8000#16 0xCE#8, .read 0x8001#16 0x00#8, .read 0x8002#16 0x03#8,
       .read 0x0300#16 0x00#8, .write 0x0300#16 0xFF#8]) := by
  decide

/-- V34: `DEC $F0,X`. -/
theorem test_V34_decZpx :
    stepOnce .full { x := 0x20#8 } [0xD6#8, 0xF0#8] [(0x0010#16, 0x01#8)] [0x0010#16] =
    some ({ x := 0x20#8, p := 0x02#8, pc := 0x8002#16 }, .running, [0x00#8],
      [.read 0x8000#16 0xD6#8, .read 0x8001#16 0xF0#8, .read 0x0010#16 0x01#8, .write 0x0010#16 0x00#8]) := by
  decide

/-- V35: `INC $2006`. -/
theorem test_V35_incAbs :
    stepOnce .full {} [0xEE#8, 0x06#8, 0x20#8] [(0x2006#16, 0x1F#8)] [0x2006#16] =
    some ({ pc := 0x8003#16 }, .running, [0x20#8],
      [.read 0x8000#16 0xEE#8, .read 0x8001#16 0x06#8, .read 0x8002#16 0x20#8,
       .read 0x2006#16 0x1F#8, .write 0x2006#16 0x20#8]) := by
  decide

/-- V39: `ADC #$80`. -/
theorem test_V39_adcImm :
    stepOnce .full { a := 0x80#8 } [0x69#8, 0x80#8] [] [] =
    some ({ p := 0x43#8, pc := 0x8002#16 }, .running, [],
      [.read 0x8000#16 0x69#8, .read 0x8001#16 0x80#8]) := by
  decide

/-- V40: `ADC #$01`. -/
theorem test_V40_adcImm :
    stepOnce .full { a := 0x09#8, p := 0x08#8 } [0x69#8, 0x01#8] [] [] =
    some ({ a := 0x0A#8, p := 0x08#8, pc := 0x8002#16 }, .running, [],
      [.read 0x8000#16 0x69#8, .read 0x8001#16 0x01#8]) := by
  decide

/-- V41: `ADC $0200`. -/
theorem test_V41_adcAbs :
    stepOnce .full { a := 0x7F#8, p := 0x01#8 } [0x6D#8, 0x00#8, 0x02#8] [(0x0200#16, 0x00#8)] [] =
    some ({ a := 0x80#8, p := 0xC0#8, pc := 0x8003#16 }, .running, [],
      [.read 0x8000#16 0x6D#8, .read 0x8001#16 0x00#8, .read 0x8002#16 0x02#8, .read 0x0200#16 0x00#8]) := by
  decide

/-- V45: `SBC #$01`. -/
theorem test_V45_sbcImm :
    stepOnce .full { a := 0x80#8, p := 0x01#8 } [0xE9#8, 0x01#8] [] [] =
    some ({ a := 0x7F#8, p := 0x41#8, pc := 0x8002#16 }, .running, [],
      [.read 0x8000#16 0xE9#8, .read 0x8001#16 0x01#8]) := by
  decide

/-- V47: `SBC #$01`. -/
theorem test_V47_sbcImm :
    stepOnce .full { a := 0x10#8, p := 0x09#8 } [0xE9#8, 0x01#8] [] [] =
    some ({ a := 0x0F#8, p := 0x09#8, pc := 0x8002#16 }, .running, [],
      [.read 0x8000#16 0xE9#8, .read 0x8001#16 0x01#8]) := by
  decide

/-- V48: `AND #$0F`. -/
theorem test_V48_andImm :
    stepOnce .full { a := 0xF0#8, p := 0x41#8 } [0x29#8, 0x0F#8] [] [] =
    some ({ p := 0x43#8, pc := 0x8002#16 }, .running, [],
      [.read 0x8000#16 0x29#8, .read 0x8001#16 0x0F#8]) := by
  decide

/-- V49: `ORA $10`. -/
theorem test_V49_oraZp :
    stepOnce .full { a := 0x01#8 } [0x05#8, 0x10#8] [(0x0010#16, 0x80#8)] [] =
    some ({ a := 0x81#8, p := 0x80#8, pc := 0x8002#16 }, .running, [],
      [.read 0x8000#16 0x05#8, .read 0x8001#16 0x10#8, .read 0x0010#16 0x80#8]) := by
  decide

/-- V50: `EOR #$FF`. -/
theorem test_V50_eorImm :
    stepOnce .full { a := 0xFF#8 } [0x49#8, 0xFF#8] [] [] =
    some ({ p := 0x02#8, pc := 0x8002#16 }, .running, [],
      [.read 0x8000#16 0x49#8, .read 0x8001#16 0xFF#8]) := by
  decide

/-- V51: `CMP #$40`. -/
theorem test_V51_cmpImm :
    stepOnce .full { a := 0x40#8, p := 0x40#8 } [0xC9#8, 0x40#8] [] [] =
    some ({ a := 0x40#8, p := 0x43#8, pc := 0x8002#16 }, .running, [],
      [.read 0x8000#16 0xC9#8, .read 0x8001#16 0x40#8]) := by
  decide

/-- V52: `CMP #$41`. -/
theorem test_V52_cmpImm :
    stepOnce .full { a := 0x40#8, p := 0x01#8 } [0xC9#8, 0x41#8] [] [] =
    some ({ a := 0x40#8, p := 0x80#8, pc := 0x8002#16 }, .running, [],
      [.read 0x8000#16 0xC9#8, .read 0x8001#16 0x41#8]) := by
  decide

/-- V55: `CPX $10`. -/
theorem test_V55_cpxZp :
    stepOnce .full { x := 0x10#8 } [0xE4#8, 0x10#8] [(0x0010#16, 0x0F#8)] [] =
    some ({ x := 0x10#8, p := 0x01#8, pc := 0x8002#16 }, .running, [],
      [.read 0x8000#16 0xE4#8, .read 0x8001#16 0x10#8, .read 0x0010#16 0x0F#8]) := by
  decide

/-- V56: `CPY #$80`. -/
theorem test_V56_cpyImm :
    stepOnce .full { y := 0x7F#8 } [0xC0#8, 0x80#8] [] [] =
    some ({ y := 0x7F#8, p := 0x80#8, pc := 0x8002#16 }, .running, [],
      [.read 0x8000#16 0xC0#8, .read 0x8001#16 0x80#8]) := by
  decide

/-- V57: `BIT $10`. -/
theorem test_V57_bitZp :
    stepOnce .full { a := 0x01#8, p := 0x01#8 } [0x24#8, 0x10#8] [(0x0010#16, 0xC0#8)] [] =
    some ({ a := 0x01#8, p := 0xC3#8, pc := 0x8002#16 }, .running, [],
      [.read 0x8000#16 0x24#8, .read 0x8001#16 0x10#8, .read 0x0010#16 0xC0#8]) := by
  decide

/-- V58: `BIT $0200`. -/
theorem test_V58_bitAbs :
    stepOnce .full { a := 0xFF#8, p := 0xC2#8 } [0x2C#8, 0x00#8, 0x02#8] [(0x0200#16, 0x3F#8)] [] =
    some ({ a := 0xFF#8, pc := 0x8003#16 }, .running, [],
      [.read 0x8000#16 0x2C#8, .read 0x8001#16 0x00#8, .read 0x8002#16 0x02#8, .read 0x0200#16 0x3F#8]) := by
  decide

/-- V59: `ASL A`. -/
theorem test_V59_aslAcc :
    stepOnce .full { a := 0x80#8 } [0x0A#8] [] [] =
    some ({ p := 0x03#8, pc := 0x8001#16 }, .running, [],
      [.read 0x8000#16 0x0A#8]) := by
  decide

/-- V60: `ASL A`. -/
theorem test_V60_aslAcc :
    stepOnce .full { a := 0x41#8, p := 0x01#8 } [0x0A#8] [] [] =
    some ({ a := 0x82#8, p := 0x80#8, pc := 0x8001#16 }, .running, [],
      [.read 0x8000#16 0x0A#8]) := by
  decide

/-- V61: `ASL $10`. -/
theorem test_V61_aslZp :
    stepOnce .full {} [0x06#8, 0x10#8] [(0x0010#16, 0xC0#8)] [0x0010#16] =
    some ({ p := 0x81#8, pc := 0x8002#16 }, .running, [0x80#8],
      [.read 0x8000#16 0x06#8, .read 0x8001#16 0x10#8, .read 0x0010#16 0xC0#8, .write 0x0010#16 0x80#8]) := by
  decide

/-- V62: `LSR A`. -/
theorem test_V62_lsrAcc :
    stepOnce .full { a := 0x01#8, p := 0x80#8 } [0x4A#8] [] [] =
    some ({ p := 0x03#8, pc := 0x8001#16 }, .running, [],
      [.read 0x8000#16 0x4A#8]) := by
  decide

/-- V63: `LSR $0200,X`. -/
theorem test_V63_lsrAbx :
    stepOnce .full { x := 0x01#8 } [0x5E#8, 0x00#8, 0x02#8] [(0x0201#16, 0xFE#8)] [0x0201#16] =
    some ({ x := 0x01#8, pc := 0x8003#16 }, .running, [0x7F#8],
      [.read 0x8000#16 0x5E#8, .read 0x8001#16 0x00#8, .read 0x8002#16 0x02#8,
       .read 0x0201#16 0xFE#8, .write 0x0201#16 0x7F#8]) := by
  decide

/-- V64: `ROL A`. -/
theorem test_V64_rolAcc :
    stepOnce .full { a := 0x80#8, p := 0x01#8 } [0x2A#8] [] [] =
    some ({ a := 0x01#8, p := 0x01#8, pc := 0x8001#16 }, .running, [],
      [.read 0x8000#16 0x2A#8]) := by
  decide

/-- V65: `ROL $10`. -/
theorem test_V65_rolZp :
    stepOnce .full {} [0x26#8, 0x10#8] [(0x0010#16, 0x40#8)] [0x0010#16] =
    some ({ p := 0x80#8, pc := 0x8002#16 }, .running, [0x80#8],
      [.read 0x8000#16 0x26#8, .read 0x8001#16 0x10#8, .read 0x0010#16 0x40#8, .write 0x0010#16 0x80#8]) := by
  decide

/-- V66: `ROR A`. -/
theorem test_V66_rorAcc :
    stepOnce .full { a := 0x01#8, p := 0x01#8 } [0x6A#8] [] [] =
    some ({ a := 0x80#8, p := 0x81#8, pc := 0x8001#16 }, .running, [],
      [.read 0x8000#16 0x6A#8]) := by
  decide

/-- V67: `ROR A`. -/
theorem test_V67_rorAcc :
    stepOnce .full { a := 0x01#8 } [0x6A#8] [] [] =
    some ({ p := 0x03#8, pc := 0x8001#16 }, .running, [],
      [.read 0x8000#16 0x6A#8]) := by
  decide

/-- V68: `ROR $10,X`. -/
theorem test_V68_rorZpx :
    stepOnce .full { x := 0xFF#8, p := 0x01#8 } [0x76#8, 0x10#8] [(0x000F#16, 0x02#8)] [0x000F#16] =
    some ({ x := 0xFF#8, p := 0x80#8, pc := 0x8002#16 }, .running, [0x81#8],
      [.read 0x8000#16 0x76#8, .read 0x8001#16 0x10#8, .read 0x000F#16 0x02#8, .write 0x000F#16 0x81#8]) := by
  decide

/-- V69: `BNE +5`. -/
theorem test_V69_bneRel :
    stepOnce .full {} [0xD0#8, 0x05#8] [] [] =
    some ({ pc := 0x8007#16 }, .running, [],
      [.read 0x8000#16 0xD0#8, .read 0x8001#16 0x05#8]) := by
  decide

/-- V70: `BNE +5`. -/
theorem test_V70_bneRel :
    stepOnce .full { p := 0x02#8 } [0xD0#8, 0x05#8] [] [] =
    some ({ p := 0x02#8, pc := 0x8002#16 }, .running, [],
      [.read 0x8000#16 0xD0#8]) := by
  decide

/-- V71: `BEQ -2`. -/
theorem test_V71_beqRel :
    stepOnce .full { p := 0x02#8 } [0xF0#8, 0xFE#8] [] [] =
    some ({ p := 0x02#8 }, .running, [],
      [.read 0x8000#16 0xF0#8, .read 0x8001#16 0xFE#8]) := by
  decide

/-- V72: `BCC -128`. -/
theorem test_V72_bccRel :
    stepOnce .full { pc := 0x8010#16 } [0x90#8, 0x80#8] [] [] =
    some ({ pc := 0x7F92#16 }, .running, [],
      [.read 0x8010#16 0x90#8, .read 0x8011#16 0x80#8]) := by
  decide

/-- V73: `BCS +127`. -/
theorem test_V73_bcsRel :
    stepOnce .full { p := 0x01#8 } [0xB0#8, 0x7F#8] [] [] =
    some ({ p := 0x01#8, pc := 0x8081#16 }, .running, [],
      [.read 0x8000#16 0xB0#8, .read 0x8001#16 0x7F#8]) := by
  decide

/-- V74: `BMI +16`. -/
theorem test_V74_bmiRel :
    stepOnce .full { p := 0x80#8, pc := 0xFFF8#16 } [0x30#8, 0x10#8] [] [] =
    some ({ p := 0x80#8, pc := 0x000A#16 }, .running, [],
      [.read 0xFFF8#16 0x30#8, .read 0xFFF9#16 0x10#8]) := by
  decide

/-- V75: `BPL -5`. -/
theorem test_V75_bplRel :
    stepOnce .full { pc := 0x0001#16 } [0x10#8, 0xFB#8] [] [] =
    some ({ pc := 0xFFFE#16 }, .running, [],
      [.read 0x0001#16 0x10#8, .read 0x0002#16 0xFB#8]) := by
  decide

/-- V76: `BVC +0`. -/
theorem test_V76_bvcRel :
    stepOnce .full {} [0x50#8, 0x00#8] [] [] =
    some ({ pc := 0x8002#16 }, .running, [],
      [.read 0x8000#16 0x50#8, .read 0x8001#16 0x00#8]) := by
  decide

/-- V77: `BVS +2`. -/
theorem test_V77_bvsRel :
    stepOnce .full {} [0x70#8, 0x02#8] [] [] =
    some ({ pc := 0x8002#16 }, .running, [],
      [.read 0x8000#16 0x70#8]) := by
  decide

/-- V78: `JMP $1234`. -/
theorem test_V78_jmpAbs :
    stepOnce .full {} [0x4C#8, 0x34#8, 0x12#8] [] [] =
    some ({ pc := 0x1234#16 }, .running, [],
      [.read 0x8000#16 0x4C#8, .read 0x8001#16 0x34#8, .read 0x8002#16 0x12#8]) := by
  decide

/-- V79: `JMP ($0200)`. -/
theorem test_V79_jmpInd :
    stepOnce .full {} [0x6C#8, 0x00#8, 0x02#8] [(0x0200#16, 0x00#8), (0x0201#16, 0x90#8)] [] =
    some ({ pc := 0x9000#16 }, .running, [],
      [.read 0x8000#16 0x6C#8, .read 0x8001#16 0x00#8, .read 0x8002#16 0x02#8,
       .read 0x0200#16 0x00#8, .read 0x0201#16 0x90#8]) := by
  decide

/-- V80: `JMP ($02FF)`. -/
theorem test_V80_jmpInd :
    stepOnce .full {} [0x6C#8, 0xFF#8, 0x02#8] [(0x02FF#16, 0x78#8), (0x0200#16, 0x9A#8), (0x0300#16, 0x56#8)] [] =
    some ({ pc := 0x9A78#16 }, .running, [],
      [.read 0x8000#16 0x6C#8, .read 0x8001#16 0xFF#8, .read 0x8002#16 0x02#8,
       .read 0x02FF#16 0x78#8, .read 0x0200#16 0x9A#8]) := by
  decide

/-- V81: `JSR $8010`. -/
theorem test_V81_jsrAbs :
    stepOnce .full { sp := 0xFF#8 } [0x20#8, 0x10#8, 0x80#8] [] [0x01FF#16, 0x01FE#16] =
    some ({ sp := 0xFD#8, pc := 0x8010#16 }, .running, [0x80#8, 0x02#8],
      [.read 0x8000#16 0x20#8, .read 0x8001#16 0x10#8, .read 0x8002#16 0x80#8,
       .write 0x01FF#16 0x80#8, .write 0x01FE#16 0x02#8]) := by
  decide

/-- V82: `JSR $9000`. -/
theorem test_V82_jsrAbs :
    stepOnce .full { pc := 0x80FE#16 } [0x20#8, 0x00#8, 0x90#8] [] [0x0100#16, 0x01FF#16] =
    some ({ sp := 0xFE#8, pc := 0x9000#16 }, .running, [0x81#8, 0x00#8],
      [.read 0x80FE#16 0x20#8, .read 0x80FF#16 0x00#8, .read 0x8100#16 0x90#8,
       .write 0x0100#16 0x81#8, .write 0x01FF#16 0x00#8]) := by
  decide

/-- V83: `RTS`. -/
theorem test_V83_rts :
    stepOnce .full { sp := 0xFD#8 } [0x60#8] [(0x01FE#16, 0x02#8), (0x01FF#16, 0x80#8)] [] =
    some ({ sp := 0xFF#8, pc := 0x8003#16 }, .running, [],
      [.read 0x8000#16 0x60#8, .read 0x01FE#16 0x02#8, .read 0x01FF#16 0x80#8]) := by
  decide

/-- V84: `RTS`. -/
theorem test_V84_rts :
    stepOnce .full { sp := 0xFF#8 } [0x60#8] [(0x0100#16, 0xFF#8), (0x0101#16, 0xFF#8)] [] =
    some ({ sp := 0x01#8, pc := 0x0000#16 }, .running, [],
      [.read 0x8000#16 0x60#8, .read 0x0100#16 0xFF#8, .read 0x0101#16 0xFF#8]) := by
  decide

/-- V85: `RTI`. -/
theorem test_V85_rti :
    stepOnce .full { p := 0x30#8, sp := 0xFC#8 } [0x40#8]
      [(0x01FD#16, 0xFF#8), (0x01FE#16, 0x34#8), (0x01FF#16, 0x12#8)] [] =
    some ({ p := 0xFF#8, sp := 0xFF#8, pc := 0x1234#16 }, .running, [],
      [.read 0x8000#16 0x40#8, .read 0x01FD#16 0xFF#8, .read 0x01FE#16 0x34#8, .read 0x01FF#16 0x12#8]) := by
  decide

/-- V86: `RTI`. -/
theorem test_V86_rti :
    stepOnce .full { sp := 0xFC#8 } [0x40#8] [(0x01FD#16, 0x30#8), (0x01FE#16, 0x00#8), (0x01FF#16, 0x80#8)] [] =
    some ({ sp := 0xFF#8 }, .running, [],
      [.read 0x8000#16 0x40#8, .read 0x01FD#16 0x30#8, .read 0x01FE#16 0x00#8, .read 0x01FF#16 0x80#8]) := by
  decide

/-- V87: `PHA`. -/
theorem test_V87_pha :
    stepOnce .full { a := 0x42#8, sp := 0xFF#8 } [0x48#8] [] [0x01FF#16] =
    some ({ a := 0x42#8, sp := 0xFE#8, pc := 0x8001#16 }, .running, [0x42#8],
      [.read 0x8000#16 0x48#8, .write 0x01FF#16 0x42#8]) := by
  decide

/-- V88: `PHA`. -/
theorem test_V88_pha :
    stepOnce .full { a := 0x42#8 } [0x48#8] [] [0x0100#16] =
    some ({ a := 0x42#8, sp := 0xFF#8, pc := 0x8001#16 }, .running, [0x42#8],
      [.read 0x8000#16 0x48#8, .write 0x0100#16 0x42#8]) := by
  decide

/-- V89: `PHP`. -/
theorem test_V89_php :
    stepOnce .full { p := 0xC3#8, sp := 0xFF#8 } [0x08#8] [] [0x01FF#16] =
    some ({ p := 0xC3#8, sp := 0xFE#8, pc := 0x8001#16 }, .running, [0xF3#8],
      [.read 0x8000#16 0x08#8, .write 0x01FF#16 0xF3#8]) := by
  decide

/-- V90: `PLA`. -/
theorem test_V90_pla :
    stepOnce .full { a := 0x55#8, sp := 0xFE#8 } [0x68#8] [(0x01FF#16, 0x00#8)] [] =
    some ({ p := 0x02#8, sp := 0xFF#8, pc := 0x8001#16 }, .running, [],
      [.read 0x8000#16 0x68#8, .read 0x01FF#16 0x00#8]) := by
  decide

/-- V91: `PLA`. -/
theorem test_V91_pla :
    stepOnce .full { sp := 0xFF#8 } [0x68#8] [(0x0100#16, 0x80#8)] [] =
    some ({ a := 0x80#8, p := 0x80#8, pc := 0x8001#16 }, .running, [],
      [.read 0x8000#16 0x68#8, .read 0x0100#16 0x80#8]) := by
  decide

/-- V92: `PLP`. -/
theorem test_V92_plp :
    stepOnce .full { sp := 0xFE#8 } [0x28#8] [(0x01FF#16, 0xFF#8)] [] =
    some ({ p := 0xCF#8, sp := 0xFF#8, pc := 0x8001#16 }, .running, [],
      [.read 0x8000#16 0x28#8, .read 0x01FF#16 0xFF#8]) := by
  decide

/-- V93: `PLP`. -/
theorem test_V93_plp :
    stepOnce .full { p := 0x30#8, sp := 0xFE#8 } [0x28#8] [(0x01FF#16, 0x00#8)] [] =
    some ({ p := 0x30#8, sp := 0xFF#8, pc := 0x8001#16 }, .running, [],
      [.read 0x8000#16 0x28#8, .read 0x01FF#16 0x00#8]) := by
  decide

/-- V94: `CLC`. -/
theorem test_V94_clc :
    stepOnce .full { p := 0xFF#8 } [0x18#8] [] [] =
    some ({ p := 0xFE#8, pc := 0x8001#16 }, .running, [],
      [.read 0x8000#16 0x18#8]) := by
  decide

/-- V95: `SEC`. -/
theorem test_V95_sec :
    stepOnce .full {} [0x38#8] [] [] =
    some ({ p := 0x01#8, pc := 0x8001#16 }, .running, [],
      [.read 0x8000#16 0x38#8]) := by
  decide

/-- V96: `CLD`. -/
theorem test_V96_cld :
    stepOnce .full { p := 0xFF#8 } [0xD8#8] [] [] =
    some ({ p := 0xF7#8, pc := 0x8001#16 }, .running, [],
      [.read 0x8000#16 0xD8#8]) := by
  decide

/-- V97: `SED`. -/
theorem test_V97_sed :
    stepOnce .full {} [0xF8#8] [] [] =
    some ({ p := 0x08#8, pc := 0x8001#16 }, .running, [],
      [.read 0x8000#16 0xF8#8]) := by
  decide

/-- V98: `CLI`. -/
theorem test_V98_cli :
    stepOnce .full { p := 0xFF#8 } [0x58#8] [] [] =
    some ({ p := 0xFB#8, pc := 0x8001#16 }, .running, [],
      [.read 0x8000#16 0x58#8]) := by
  decide

/-- V99: `SEI`. -/
theorem test_V99_sei :
    stepOnce .full {} [0x78#8] [] [] =
    some ({ p := 0x04#8, pc := 0x8001#16 }, .running, [],
      [.read 0x8000#16 0x78#8]) := by
  decide

/-- V100: `CLV`. -/
theorem test_V100_clv :
    stepOnce .full { p := 0xFF#8 } [0xB8#8] [] [] =
    some ({ p := 0xBF#8, pc := 0x8001#16 }, .running, [],
      [.read 0x8000#16 0xB8#8]) := by
  decide

/-- V101: `NOP`. -/
theorem test_V101_nop :
    stepOnce .full { a := 0x01#8, x := 0x02#8, y := 0x03#8, p := 0xA5#8, sp := 0x04#8 } [0xEA#8] [] [] =
    some ({ a := 0x01#8, x := 0x02#8, y := 0x03#8, p := 0xA5#8, sp := 0x04#8, pc := 0x8001#16 }, .running, [],
      [.read 0x8000#16 0xEA#8]) := by
  decide

/-- V102: `BRK`. -/
theorem test_V102_brk :
    stepOnce .minimum { a := 0x01#8, x := 0x02#8, y := 0x03#8, p := 0xA5#8, sp := 0x04#8 } [0x00#8] [] [] =
    some ({ a := 0x01#8, x := 0x02#8, y := 0x03#8, p := 0xA5#8, sp := 0x04#8, pc := 0x8001#16 }, .halted, [],
      [.read 0x8000#16 0x00#8]) := by
  decide

/-- V104: `(unassigned)`. -/
theorem test_V104_fatal :
    stepOnce .full { a := 0x01#8, p := 0x81#8 } [0x02#8] [] [] =
    some ({ a := 0x01#8, p := 0x81#8, pc := 0x8001#16 }, .faulted (.unimplementedOpcode 0x02#8 0x8000#16), [],
      [.read 0x8000#16 0x02#8]) := by
  decide

/-- V105: `(unassigned)`. -/
theorem test_V105_fatal :
    stepOnce .full { pc := 0x0200#16 } [0xFF#8, 0xFF#8, 0xFF#8] [] [] =
    some ({ pc := 0x0201#16 }, .faulted (.unimplementedOpcode 0xFF#8 0x0200#16), [],
      [.read 0x0200#16 0xFF#8]) := by
  decide

/-- V106: `(NOP byte, MINIMUM)`. -/
theorem test_V106_nop :
    stepOnce .minimum {} [0xEA#8] [] [] =
    some ({ pc := 0x8001#16 }, .faulted (.unimplementedOpcode 0xEA#8 0x8000#16), [],
      [.read 0x8000#16 0xEA#8]) := by
  decide

/-- V107: `(0x89, no STA immediate)`. -/
theorem test_V107_fatal :
    stepOnce .full {} [0x89#8, 0x00#8] [] [] =
    some ({ pc := 0x8001#16 }, .faulted (.unimplementedOpcode 0x89#8 0x8000#16), [],
      [.read 0x8000#16 0x89#8]) := by
  decide

/-- V19, V35: a store to the control register, and the write back of INC to the address register. -/
theorem test_V19_V35_shim :
    (nextOf (step (cpu { y := 0x04#8 } [0x8C#8, 0x00#8, 0x20#8]))).map (fun t => (t.ctrl, t.latchExpectHi)) =
      some (0x04#8, true) ∧
    (nextOf (step (cpu {} [0xEE#8, 0x06#8, 0x20#8] [(0x2006#16, 0x1F#8)]))).map
      (fun t => (t.getAddress, t.latchExpectHi)) = some (0x2000#16, false) := by
  decide

/-! ## Status Flag Unit, shim, bus, host (spec/95 sections 1 and 3) -/

theorem test_S1_set_zn :
    setZN 0x7D#8 0x00#8 = 0x7F#8 ∧ setZN 0x7D#8 0x80#8 = 0xFD#8 ∧ setZN 0xFF#8 0x01#8 = 0x7D#8 ∧
    setZN 0x00#8 0xFF#8 = 0x80#8 ∧ setZN 0x82#8 0x7F#8 = 0x00#8 := by decide

theorem test_V110_to_V114_latch :
    latchAfterWrites (shim 0x0000#16 true) [0x20#8, 0x00#8] = (0x2000#16, true) ∧
    latchAfterWrites (shim 0x0000#16 true) [0x20#8, 0x00#8, 0x21#8] = (0x2100#16, false) ∧
    latchAfterWrites (shim 0x0000#16 true) [0x7F#8, 0xFF#8] = (0x3FFF#16, true) ∧
    latchAfterWrites (shim 0x0000#16 true) [0xC1#8] = (0x0100#16, false) ∧
    latchAfterWrites (shim 0x12FF#16 true) [0x3F#8] = (0x3FFF#16, false) ∧
    latchAfterWrites (shim 0x2000#16 false) [0x55#8] = (0x2055#16, true) := by decide

theorem test_V117_to_V126_increment :
    ((shim 0x20FF#16 true).incrementLatch 1#8).getAddress = 0x2100#16 ∧
    ((shim 0x3FFF#16 true).incrementLatch 1#8).getAddress = 0x0000#16 ∧
    ((shim 0x3FF0#16 true).incrementLatch 32#8).getAddress = 0x0010#16 ∧
    ((shim 0x1234#16 true).incrementLatch 0#8).getAddress = 0x1234#16 ∧
    ((shim 0x1280#16 true).incrementLatch 255#8).getAddress = 0x137F#16 := by decide

theorem test_V127_to_V129_control :
    (State.reset.writeControl 0x04#8).vramAddrIncrement = 32#8 ∧
    (State.reset.writeControl 0xFB#8).vramAddrIncrement = 1#8 ∧
    (State.reset.write 0x3FF8#16 0x04#8).vramAddrIncrement = 32#8 := by decide

theorem test_V130_to_V132_window :
    (writes State.reset [(0x2006#16, 0x20#8), (0x3FFE#16, 0x00#8)]).getAddress = 0x2000#16 ∧
    (((State.reset.write 0x2006#16 0x20#8).resetLatchToggle).write 0x2006#16 0x21#8).getAddress = 0x2100#16 ∧
    (State.reset.write 0x2007#16 0xAB#8).read 0x2007#16 = 0xAB#8 ∧
    (State.reset.write 0x2007#16 0xAB#8).getAddress = 0x0000#16 := by decide

theorem test_V133_to_V137_regions :
    (State.reset.write 0x0000#16 0xA7#8).read 0x1800#16 = 0xA7#8 ∧
    (State.reset.write 0x1FFF#16 0x99#8).read 0x07FF#16 = 0x99#8 ∧
    (State.reset.write 0x5000#16 0xFF#8).read 0x5000#16 = 0x00#8 ∧
    (State.reset.write 0x8000#16 0xEA#8).read 0x8000#16 = 0xEA#8 := by decide

theorem test_V138_to_V141_words :
    (writes State.reset [(0xFFFF#16, 0x12#8), (0x0000#16, 0x34#8)]).readWord 0xFFFF#16 = 0x3412#16 ∧
    (State.reset.writeWord 0x07FF#16 0xBEEF#16).ram = [(0x000, 0xBE#8), (0x7FF, 0xEF#8)] ∧
    (State.reset.writeWord 0x1FFF#16 0x1234#16).ctrl = 0x12#8 ∧
    (State.reset.writeWord 0x3FFF#16 0xABCD#16).ppuReg = [(7, 0xCD#8)] := by decide

theorem test_V142_V143_load_reset :
    (loaded State.reset [0xA9#8, 0x05#8, 0x00#8]).rom = [(0, 0xA9#8), (1, 0x05#8), (0x7FFD, 0x80#8)] ∧
    regsOf (loaded (cpu { a := 0x11#8, x := 0x22#8, y := 0x33#8, p := 0xFF#8, sp := 0x44#8 } [])
      [0xA9#8]).hostReset = { y := 0x33#8, sp := 0x44#8 } := by decide

theorem test_V149_V150_reset_keeps_run_state :
    State.reset.hostReset.pc = 0x0000#16 ∧
    (State.raise State.reset (.unimplementedOpcode 0x02#8 0x8000#16)).hostReset.startRun.runState =
      .faulted (.unimplementedOpcode 0x02#8 0x8000#16) := by decide

/-! ## Witnesses: a concrete case that meets each obligation's hypotheses -/

theorem witness_DecodeInvertsEncode : Instr.wellFormed .minimum (.staAbs 0x2006#16) = true := by decide

theorem witness_EncodeInvertsDecode :
    decode .minimum [0x8D#8, 0x06#8, 0x20#8, 0x00#8] = .ok (.staAbs 0x2006#16, [0x00#8]) := by decide

theorem witness_OpcodeDeterminesRecordAndLength :
    (encode (.ldaImm 0x01#8)).head? = (encode (.ldaImm 0x02#8)).head? := by decide

theorem witness_MinimumProfileIsPartOfFull :
    decode .minimum (bytesAt (cpu {} [0xBD#8, 0x34#8, 0x12#8])) = .ok (.ldaAbx 0x1234#16, []) := by decide

theorem witness_StepRunsTheDecodedInstruction :
    let s := cpu { pc := 0xFFFF#16 } [0x8D#8, 0x06#8, 0x20#8]
    s.runState = .running ∧ decode Config.isaProfile (bytesAt s) = .ok (.staAbs 0x2006#16, []) := by decide

theorem witness_UnassignedOpcodeIsFatal :
    let s := cpu {} [0xEA#8]
    s.runState = .running ∧ decode .minimum (bytesAt s) = .error (.unassignedOpcode (s.read s.pc)) := by decide

theorem witness_FaultedIsTerminal :
    (State.reset.raise (.unimplementedOpcode 0x02#8 0x8000#16)).runState =
      .faulted (.unimplementedOpcode 0x02#8 0x8000#16) := by decide

theorem witness_HaltedKeepsItsState : State.reset.runState = .halted := by decide

/-- A RUNNING state whose step faults, one that halts, one that goes on. -/
theorem witness_RunningStepOutcome :
    (cpu {} [0x02#8]).runState = .running ∧
    (nextOf (step (cpu {} [0x02#8]))).map State.runState = some (.faulted (.unimplementedOpcode 0x02#8 0x8000#16)) ∧
    (nextOf (step (cpu {} [0x00#8]))).map State.runState = some .halted ∧
    (nextOf (step (cpu {} [0xEA#8]))).map State.runState = some .running := by decide

/-- A sound RUNNING state and its next state. -/
theorem witness_StepKeepsStateSound :
    let s := cpu { a := 0xC1#8 } [0x8D#8, 0x06#8, 0x20#8]
    s.wf ∧ ∃ t, step s = .next t ∧ t.getAddress = 0x0100#16 := ⟨by decide, _, rfl, by decide⟩

/-- An instruction that answers a next state, for the rules over all instructions: an absolute load with its operand
bytes at 0xFFFF and 0x0000. -/
theorem witness_PcAdvancesByTheOperandLength :
    ∃ t, exec (.ldaAbs 0x1234#16) (cpu { pc := 0xFFFF#16 } []) = .next t ∧ t.pc = 0x0001#16 ∧
      (Instr.ldaAbs 0x1234#16).mnemonic ∉
        [.BCC, .BCS, .BEQ, .BMI, .BNE, .BPL, .BVC, .BVS, .JMP, .JSR, .RTS, .RTI, .BRK] :=
  ⟨_, rfl, by decide, by decide⟩

theorem witness_BreakAndUnusedBitsNeverWritten :
    ∃ t, exec .plp (cpu { sp := 0xFE#8 } [] [(0x01FF#16, 0xFF#8)]) = .next t ∧ t.p = 0xCF#8 := ⟨_, rfl, by decide⟩

theorem witness_MinimumProfileWritesOnlyZeroAndNegative :
    ∃ t, stepIn .minimum (cpu { p := 0x7D#8, x := 0xFF#8 } [0xE8#8]) = .next t ∧ t.p = 0x7F#8 := ⟨_, rfl, by decide⟩

theorem witness_InterruptAndDecimalFlagsAreInert :
    (∃ t, exec (.adcImm 0x01#8) (cpu { a := 0x09#8 } []) = .next t) ∧ Instr.adcImm 0x01#8 ≠ .php ∧
    OnlyBits [3] 0x00#8 (setFlag 0x00#8 3 true) := by
  refine ⟨⟨_, rfl⟩, by decide, fun k hk => ?_⟩
  have h : k ≠ 3 := by simpa using hk
  exact (flag_setFlag 0x00#8 3 k true (by decide)).trans (by simp [h, flag])

/-- One instruction outside all four lists. -/
theorem witness_RegisterWriters :
    (∃ t, exec (.cmpImm 0x01#8) State.reset = .next t) ∧
    Mnemonic.CMP ∉ [.LDA, .ADC, .SBC, .AND, .ORA, .EOR, .PLA, .TXA, .TYA] ∧ (Instr.cmpImm 0x01#8).format ≠ .ACC ∧
    Mnemonic.CMP ∉ [.LDX, .TAX, .INX, .TSX, .DEX] ∧ Mnemonic.CMP ∉ [.LDY, .TAY, .INY, .DEY] ∧
    Mnemonic.CMP ∉ [.TXS, .PHA, .PHP, .PLA, .PLP, .JSR, .RTS, .RTI] := by
  refine ⟨⟨_, rfl⟩, ?_⟩
  decide

/-- One instruction outside all the lists of flag writers, and in the list of those that write none. -/
theorem witness_FlagWriters :
    (∃ t, exec .txs State.reset = .next t) ∧
    Mnemonic.TXS ∉ [.ADC, .SBC, .CMP, .CPX, .CPY, .ASL, .LSR, .ROL, .ROR, .CLC, .SEC, .PLP, .RTI] ∧
    Mnemonic.TXS ∉ [.SEI, .CLI, .SED, .CLD, .ADC, .SBC, .BIT, .CLV, .PLP, .RTI] ∧
    Mnemonic.TXS ∈ [.STA, .STX, .STY, .TXS, .BCC, .BCS, .BEQ, .BMI, .BNE, .BPL, .BVC, .BVS, .JMP, .JSR, .RTS,
      .PHA, .PHP, .NOP, .BRK] ∧
    (∃ t, exec .sec State.reset = .next t) ∧ Mnemonic.SEC ∈ [.CLC, .CLD, .CLI, .CLV, .SEC, .SED, .SEI] := by
  refine ⟨⟨_, rfl⟩, by decide, by decide, by decide, ⟨_, rfl⟩, by decide⟩

/-- A load, and a shift of the accumulator: both alternatives of the second hypothesis. -/
theorem witness_OnlyStoringInstructionsChangeMemory :
    (∃ t, exec (.ldaZp 0x10#8) State.reset = .next t) ∧ (∃ t, exec .rolAcc State.reset = .next t) ∧
    Mnemonic.LDA ∉ [.STA, .STX, .STY, .INC, .DEC, .PHA, .PHP, .JSR, .ASL, .LSR, .ROL, .ROR] ∧
    Instr.rolAcc.format = .ACC := by
  refine ⟨⟨_, rfl⟩, ⟨_, rfl⟩, ?_⟩
  decide

/-- Each clause at the ends of its range: what the four regions give there. -/
theorem witness_ReadsByRegion :
    let s : State := { State.reset with ram := [(0x000, 0x01#8), (0x7FF, 0x02#8)], ppuReg := [(0, 0x03#8), (7, 0x04#8)],
                                        rom := [(0x0000, 0x05#8), (0x7FFF, 0x06#8)] }
    s.read 0x0000#16 = 0x01#8 ∧ s.read 0x1FFF#16 = 0x02#8 ∧ s.read 0x2000#16 = 0x03#8 ∧ s.read 0x3FFF#16 = 0x04#8 ∧
    s.read 0x4000#16 = 0x00#8 ∧ s.read 0x7FFF#16 = 0x00#8 ∧ s.read 0x8000#16 = 0x05#8 ∧ s.read 0xFFFF#16 = 0x06#8 := by
  decide

/-- Each clause at the ends of its range: what the write leaves there. -/
theorem witness_WritesByRegion :
    (State.reset.write 0x1FFF#16 0x21#8).ram = [(0x7FF, 0x21#8)] ∧
    (State.reset.write 0x2000#16 0x21#8).ctrl = 0x21#8 ∧
    (State.reset.write 0x3FFE#16 0x21#8).getAddress = 0x2100#16 ∧
    (State.reset.write 0x3FFF#16 0x21#8).ppuReg = [(7, 0x21#8)] ∧
    State.reset.write 0x4000#16 0x21#8 = State.reset ∧ State.reset.write 0x7FFF#16 0x21#8 = State.reset ∧
    (State.reset.write 0x8000#16 0x21#8).rom = [(0x0000, 0x21#8)] ∧
    (State.reset.write 0xFFFF#16 0x21#8).rom = [(0x7FFF, 0x21#8)] := by decide

theorem witness_AccessesExplainTheStep : (cpu {} [0x20#8, 0x10#8, 0x80#8]).runState = .running := by decide

theorem witness_AddressLatchWrites : State.reset.latchExpectHi = true := by decide

theorem witness_ControlByteAndToggle :
    (State.reset.pictureIncrement 256).toOption = none ∧ (State.reset.pictureIncrement 255).toOption.isSome := by decide

theorem witness_SoundStatesThatReadAlikeAreEqual :
    let s := cpu { a := 0x01#8 } [0xA9#8, 0x05#8]
    s.wf ∧ SameReads s s ∧ s = { s with ram := s.ram, ppuReg := s.ppuReg, rom := s.rom } :=
  ⟨by decide, fun _ => rfl, rfl⟩

/-- The first refused length and the last accepted one (V146, V147), the last byte of that image, and, for a short
image, a byte of it and two addresses outside it. -/
theorem witness_ProgramLoad :
    32768 < (List.replicate 32769 0xEA#8).length ∧ (List.replicate 32768 0xEA#8).length ≤ 32768 ∧
    (List.replicate 32768 0xEA#8)[0x7FFF]? = some 0xEA#8 ∧ [0xA9#8, 0x05#8].length ≤ 32768 ∧
    [0xA9#8, 0x05#8][1]? = some 0x05#8 ∧ (0x7FFF#16).toNat < 0x8000 ∧ 0x8000 + 2 ≤ (0x8002#16).toNat := by
  refine ⟨?_, ?_, ?_, by decide⟩
  · rw [List.length_replicate]; decide
  · rw [List.length_replicate]
  · rw [List.getElem?_replicate, if_pos (by decide)]

theorem witness_RunLoopStopsWhenNotRunning :
    (cpu {} [0xEA#8]).runState = .running ∧ State.reset.runState ≠ .running := by decide

theorem witness_ObserverDoesNotChangeTheRun :
    1 < 3 ∧ ((cpu {} [0xEA#8, 0xEA#8]).runLoop .full 1).runState = .running := by decide

theorem witness_NoneAddressingIsTheOnlyInvalidMode :
    AddressingMode.immediate ≠ .noneAddressing ∧ ⟨0xA9#8, .ldaImm 0x01#8, .imm 0x01#8, 1⟩ ∈ allForms 0x01#8 0x0000#16 := by
  decide

theorem witness_OperandsAreWhatTheResolverFinds :
    ⟨0xDE#8, .decAbx 0x1234#16, .abx 0x1234#16, 2⟩ ∈ allForms 0x20#8 0x1234#16 ∧
    decode .full (bytesAt (cpu {} [0xDE#8, 0x34#8, 0x12#8])) = .ok (.decAbx 0x1234#16, []) := by decide

/-- Every list of forms the result statements quantify over has the forms the rules give. -/
theorem witness_forms :
    [formsLDA, formsSTA, formsLDX, formsLDY, formsSTX, formsSTY].map (fun f => (f 0x20#8 0x1234#16).length) =
      [8, 7, 5, 5, 3, 3] ∧
    [formsINC, formsDEC, formsADC, formsSBC, formsAND, formsORA, formsEOR].map (fun f => (f 0x20#8 0x1234#16).length) =
      [4, 4, 8, 8, 8, 8, 8] ∧
    [formsCMP, formsCPX, formsCPY, formsBIT, formsASL, formsLSR, formsROL, formsROR].map
      (fun f => (f 0x20#8 0x1234#16).length) = [8, 3, 3, 2, 4, 4, 4, 4] := by decide

theorem witness_LoadResults :
    ⟨0xB1#8, .ldaIzy 0x20#8, .izy 0x20#8, 1⟩ ∈ formsLDA 0x20#8 0x1234#16 ∧
    ⟨0xBE#8, .ldxAby 0x1234#16, .aby 0x1234#16, 2⟩ ∈ formsLDX 0x20#8 0x1234#16 ∧
    ⟨0xBC#8, .ldyAbx 0x1234#16, .abx 0x1234#16, 2⟩ ∈ formsLDY 0x20#8 0x1234#16 := by decide

theorem witness_StoreResults :
    ⟨0x91#8, .staIzy 0x20#8, .izy 0x20#8, 1⟩ ∈ formsSTA 0x20#8 0x1234#16 ∧
    ⟨0x96#8, .stxZpy 0x20#8, .zpy 0x20#8, 1⟩ ∈ formsSTX 0x20#8 0x1234#16 ∧
    ⟨0x8C#8, .styAbs 0x1234#16, .abs 0x1234#16, 2⟩ ∈ formsSTY 0x20#8 0x1234#16 := by decide

theorem witness_MemoryIncrementResults :
    ⟨0xFE#8, .incAbx 0x1234#16, .abx 0x1234#16, 2⟩ ∈ formsINC 0x20#8 0x1234#16 ∧
    ⟨0xC6#8, .decZp 0x20#8, .zp 0x20#8, 1⟩ ∈ formsDEC 0x20#8 0x1234#16 := by decide

theorem witness_AddWithCarryResult :
    ⟨0x71#8, .adcIzy 0x20#8, .izy 0x20#8, 1⟩ ∈ formsADC 0x20#8 0x1234#16 := by decide

theorem witness_SubtractWithBorrowResult :
    ⟨0xF1#8, .sbcIzy 0x20#8, .izy 0x20#8, 1⟩ ∈ formsSBC 0x20#8 0x1234#16 := by decide

theorem witness_LogicResults :
    ⟨0x29#8, .andImm 0x20#8, .imm 0x20#8, 1⟩ ∈ formsAND 0x20#8 0x1234#16 ∧
    ⟨0x01#8, .oraIzx 0x20#8, .izx 0x20#8, 1⟩ ∈ formsORA 0x20#8 0x1234#16 ∧
    ⟨0x5D#8, .eorAbx 0x1234#16, .abx 0x1234#16, 2⟩ ∈ formsEOR 0x20#8 0x1234#16 := by decide

theorem witness_CompareResults :
    ⟨0xD1#8, .cmpIzy 0x20#8, .izy 0x20#8, 1⟩ ∈ formsCMP 0x20#8 0x1234#16 ∧
    ⟨0xE0#8, .cpxImm 0x20#8, .imm 0x20#8, 1⟩ ∈ formsCPX 0x20#8 0x1234#16 ∧
    ⟨0xCC#8, .cpyAbs 0x1234#16, .abs 0x1234#16, 2⟩ ∈ formsCPY 0x20#8 0x1234#16 := by decide

theorem witness_BitTestResult :
    ⟨0x2C#8, .bitAbs 0x1234#16, .abs 0x1234#16, 2⟩ ∈ formsBIT 0x20#8 0x1234#16 := by decide

theorem witness_ShiftResults :
    ⟨0x1E#8, .aslAbx 0x1234#16, .abx 0x1234#16, 2⟩ ∈ formsASL 0x20#8 0x1234#16 ∧
    ⟨0x46#8, .lsrZp 0x20#8, .zp 0x20#8, 1⟩ ∈ formsLSR 0x20#8 0x1234#16 ∧
    ⟨0x36#8, .rolZpx 0x20#8, .zpx 0x20#8, 1⟩ ∈ formsROL 0x20#8 0x1234#16 ∧
    ⟨0x6E#8, .rorAbs 0x1234#16, .abs 0x1234#16, 2⟩ ∈ formsROR 0x20#8 0x1234#16 := by decide

theorem witness_SubroutineReturnsAfterTheCall :
    ∃ t, exec (.jsrAbs 0x8010#16) (cpu { pc := 0x8001#16, sp := 0x00#8 } []) = .next t ∧ t.sp = 0xFE#8 ∧
      pulledAt t 1 = 0x02#8 ∧ pulledAt t 2 = 0x80#8 := ⟨_, rfl, by decide⟩

end Sys2Proof.Tests
end

section
/-! PROOFS. The scope of spec/00_scope.md section 6: the two profiles differ only in which opcode bytes have a routine
(R4, D1). -/

namespace Sys2Proof

/-- `FULL` dispatches by the grid of R86 alone. -/
theorem dispatch_full (opcode : Byte) : dispatch .full opcode = opcodeGrid.getD opcode.toNat none :=
  if_pos rfl

/-- A byte that has a routine in some profile has the same one in `FULL`. -/
theorem dispatch_full_of_dispatch {profile : Profile} {opcode : Byte} {shape : Shape}
    (h : dispatch profile opcode = some shape) : dispatch .full opcode = some shape := by
  obtain ⟨-, hin⟩ := dispatch_fits h
  rwa [dispatch, if_pos hin, ← dispatch_full] at h

/-- What decodes begins with a byte that has a routine. -/
theorem dispatch_of_decode {profile : Profile} {opcode : Byte} {operand : List Byte} {r : Instr × List Byte}
    (h : decode profile (opcode :: operand) = .ok r) : ∃ shape, dispatch profile opcode = some shape := by
  cases hd : dispatch profile opcode with
  | none => simp [decode, hd] at h
  | some shape => exact ⟨shape, rfl⟩

/-- The profile enters the decoder through the dispatch of the opcode byte alone (R82). -/
theorem decode_eq_of_dispatch_eq {p q : Profile} {opcode : Byte} (operand : List Byte)
    (h : dispatch p opcode = dispatch q opcode) : decode p (opcode :: operand) = decode q (opcode :: operand) := by
  simp only [decode, h]

/-- What decodes in some profile decodes alike in `FULL`. -/
theorem decode_full_of_decode {profile : Profile} {bytes : List Byte} {r : Instr × List Byte}
    (h : decode profile bytes = .ok r) : decode .full bytes = .ok r := by
  cases bytes with
  | nil => exact h
  | cons opcode operand =>
    obtain ⟨shape, hd⟩ := dispatch_of_decode h
    have hsame : dispatch profile opcode = dispatch .full opcode := hd.trans (dispatch_full_of_dispatch hd).symm
    rwa [decode_eq_of_dispatch_eq operand hsame] at h

namespace Machine

open Claims

/-- The step fetches the instruction that the bytes at `PC` decode to (R92). -/
theorem State.fetch_of_decode {profile : Profile} {s : State} {i : Instr} {rest : List Byte}
    (h : decode profile (bytesAt s) = .ok (i, rest)) : s.fetch profile = some i := by
  rw [State.fetch_eq_decode, show s.bytesAtPc = bytesAt s from rfl, h]

/-- The profile enters the step through the fetched instruction alone. -/
theorem stepIn_eq_of_fetch_eq {p q : Profile} {s : State} (h : s.fetch p = s.fetch q) :
    stepIn p s = stepIn q s := by
  simp only [stepIn, State.runningStep, h]

/-- Settles O6: a byte dispatched in `MINIMUM` has the same shape in `FULL`, so the bytes decode alike, the step fetches
the same instruction, and only the fetch depends on the profile. -/
theorem minimumProfileIsPartOfFull : Obligations.MinimumProfileIsPartOfFull := by
  unfold Obligations.MinimumProfileIsPartOfFull
  refine ⟨fun _ _ => decode_full_of_decode, ?_⟩
  rintro s ⟨⟨i, rest⟩, hmin⟩
  have hfull : decode .full (bytesAt s) = .ok (i, rest) := decode_full_of_decode hmin
  exact stepIn_eq_of_fetch_eq ((State.fetch_of_decode hmin).trans (State.fetch_of_decode hfull).symm)

end Machine

end Sys2Proof
end

section
/-! PROOFS. The registers and flags an instruction may write (spec/10_state.md sections 1 to 4): one table by mnemonic,
the lemma that every instruction stays inside its row, and the statements on writers read off the table. -/

namespace Sys2Proof

/-- Which of `A`, `X`, `Y`, `SP` and which bits of `P`, by number, something may write. -/
structure Writes where
  a : Bool := false
  x : Bool := false
  y : Bool := false
  sp : Bool := false
  flags : List Nat := []

/-- What the instructions of a mnemonic may write (R10, R11, R12, R16, R17), but for the accumulator forms. -/
def Mnemonic.writes : Mnemonic → Writes
  | .LDA | .AND | .ORA | .EOR | .TXA | .TYA => { a := true, flags := [1, 7] }
  | .ADC | .SBC => { a := true, flags := [0, 1, 6, 7] }
  | .PLA => { a := true, sp := true, flags := [1, 7] }
  | .LDX | .TAX | .INX | .TSX | .DEX => { x := true, flags := [1, 7] }
  | .LDY | .TAY | .INY | .DEY => { y := true, flags := [1, 7] }
  | .INC | .DEC => { flags := [1, 7] }
  | .CMP | .CPX | .CPY | .ASL | .LSR | .ROL | .ROR => { flags := [0, 1, 7] }
  | .BIT => { flags := [1, 6, 7] }
  | .CLC | .SEC => { flags := [0] }
  | .CLI | .SEI => { flags := [2] }
  | .CLD | .SED => { flags := [3] }
  | .CLV => { flags := [6] }
  | .PLP | .RTI => { sp := true, flags := [0, 1, 2, 3, 6, 7] }
  | .TXS | .PHA | .PHP | .JSR | .RTS => { sp := true }
  | .STA | .STX | .STY | .BCC | .BCS | .BEQ | .BMI | .BNE | .BPL | .BVC | .BVS | .JMP | .NOP | .BRK => {}

/-- What an instruction may write: the row of its mnemonic, and `A` in the accumulator forms. -/
def Instr.writes (i : Instr) : Writes :=
  match i.format with
  | .ACC => { i.mnemonic.writes with a := true }
  | _ => i.mnemonic.writes

theorem Instr.writes_of_format_ne {i : Instr} (h : i.format ≠ .ACC) : i.writes = i.mnemonic.writes := by
  unfold Instr.writes
  split
  · contradiction
  · rfl

/-- The accumulator forms add `A` to the row of the mnemonic and nothing else. -/
theorem Instr.writes_eq (i : Instr) : i.writes = { i.mnemonic.writes with a := i.writes.a } := by
  unfold Instr.writes
  split <;> rfl

@[simp] theorem Instr.writes_x (i : Instr) : i.writes.x = i.mnemonic.writes.x := by rw [i.writes_eq]
@[simp] theorem Instr.writes_y (i : Instr) : i.writes.y = i.mnemonic.writes.y := by rw [i.writes_eq]
@[simp] theorem Instr.writes_sp (i : Instr) : i.writes.sp = i.mnemonic.writes.sp := by rw [i.writes_eq]
@[simp] theorem Instr.writes_flags (i : Instr) : i.writes.flags = i.mnemonic.writes.flags := by rw [i.writes_eq]

/-! ### The table read by register and by flag -/

namespace Mnemonic

theorem writes_a_iff (m : Mnemonic) : m.writes.a ↔ m ∈ [.LDA, .ADC, .SBC, .AND, .ORA, .EOR, .PLA, .TXA, .TYA] := by
  cases m <;> decide

theorem writes_x_iff (m : Mnemonic) : m.writes.x ↔ m ∈ [.LDX, .TAX, .INX, .TSX, .DEX] := by
  cases m <;> decide

theorem writes_y_iff (m : Mnemonic) : m.writes.y ↔ m ∈ [.LDY, .TAY, .INY, .DEY] := by
  cases m <;> decide

theorem writes_sp_iff (m : Mnemonic) : m.writes.sp ↔ m ∈ [.TXS, .PHA, .PHP, .PLA, .PLP, .JSR, .RTS, .RTI] := by
  cases m <;> decide

theorem carry_mem_writes_iff (m : Mnemonic) : 0 ∈ m.writes.flags ↔
    m ∈ [.ADC, .SBC, .CMP, .CPX, .CPY, .ASL, .LSR, .ROL, .ROR, .CLC, .SEC, .PLP, .RTI] := by
  cases m <;> decide

theorem interrupt_mem_writes_iff (m : Mnemonic) : 2 ∈ m.writes.flags ↔ m ∈ [.SEI, .CLI, .PLP, .RTI] := by
  cases m <;> decide

theorem decimal_mem_writes_iff (m : Mnemonic) : 3 ∈ m.writes.flags ↔ m ∈ [.SED, .CLD, .PLP, .RTI] := by
  cases m <;> decide

theorem overflow_mem_writes_iff (m : Mnemonic) :
    6 ∈ m.writes.flags ↔ m ∈ [.ADC, .SBC, .BIT, .CLV, .PLP, .RTI] := by
  cases m <;> decide

theorem break_unused_not_mem_writes (m : Mnemonic) : 4 ∉ m.writes.flags ∧ 5 ∉ m.writes.flags := by
  cases m <;> decide

theorem writes_flags_eq_nil_iff (m : Mnemonic) : m.writes.flags = [] ↔
    m ∈ [.STA, .STX, .STY, .TXS, .BCC, .BCS, .BEQ, .BMI, .BNE, .BPL, .BVC, .BVS, .JMP, .JSR, .RTS,
      .PHA, .PHP, .NOP, .BRK] := by
  cases m <;> decide

theorem zero_negative_not_mem_writes : ∀ m ∈ [CLC, .CLD, .CLI, .CLV, .SEC, .SED, .SEI],
    1 ∉ m.writes.flags ∧ 7 ∉ m.writes.flags := by
  decide

end Mnemonic

/-! ### The `MINIMUM` profile -/

/-- The `MINIMUM` profile has all forms of five mnemonics (R85). -/
theorem Instr.inMinimum_eq (i : Instr) : i.inMinimum = decide (i.mnemonic ∈ [.LDA, .STA, .TAX, .INX, .BRK]) := by
  cases i <;> rfl

theorem Mnemonic.writes_minimum : ∀ m ∈ [Mnemonic.LDA, .STA, .TAX, .INX, .BRK],
    ¬ m.writes.y ∧ ¬ m.writes.sp ∧ m.writes.flags ⊆ [1, 7] := by
  decide

namespace Machine

open Claims

/-- From `s` to `t`, no register and no bit of `P` outside `w` has changed. -/
structure WritesOnly (w : Writes) (s t : State) : Prop where
  a : ¬ w.a → t.a = s.a
  x : ¬ w.x → t.x = s.x
  y : ¬ w.y → t.y = s.y
  sp : ¬ w.sp → t.sp = s.sp
  flags : OnlyBits w.flags s.p t.p

/-! ### The bits each status function writes -/

@[simp] theorem onlyBits_refl (ks : List Nat) (p : Byte) : OnlyBits ks p p := fun _ _ => rfl

theorem onlyBits_nil_iff {p q : Byte} : OnlyBits [] p q ↔ q = p :=
  ⟨fun h => byte_ext fun k => h k List.not_mem_nil, fun h => h ▸ onlyBits_refl _ _⟩

theorem onlyBits_mono {ks js : List Nat} {p q : Byte} (hsub : ks ⊆ js) (h : OnlyBits ks p q) : OnlyBits js p q :=
  fun k hk => h k fun hmem => hk (hsub hmem)

theorem onlyBits_setFlag (p : Byte) {k : Nat} (b : Bool) (hk : k < 8) : OnlyBits [k] p (setFlag p k b) :=
  fun j hj => (flag_setFlag p k j b hk).trans (if_neg (by simpa using hj))

@[simp] theorem onlyBits_setZN (p r : Byte) : OnlyBits [1, 7] p (setZN p r) := by
  intro k hk
  have h := flag_setZN p r k
  simp_all [flag]

@[simp] theorem onlyBits_adcCore (a m p : Byte) : OnlyBits [0, 1, 6, 7] p (adcCore a m p).status := by
  intro k hk
  have h := flag_adcCore a m p k
  simp_all [flag]

@[simp] theorem onlyBits_shiftOut (p r : Byte) (c : Bool) : OnlyBits [0, 1, 7] p (shiftOut p r c).status := by
  intro k hk
  have h := flag_shiftOut p r c k
  simp_all [flag]

@[simp] theorem onlyBits_compareStatus (reg m p : Byte) : OnlyBits [0, 1, 7] p (compareStatus reg m p) := by
  intro k hk
  have h := flag_compareStatus reg m p k
  simp_all [flag]

@[simp] theorem onlyBits_bitStatus (a m p : Byte) : OnlyBits [1, 6, 7] p (bitStatus a m p) := by
  intro k hk
  have h := flag_bitStatus a m p k
  simp_all [flag]

@[simp] theorem onlyBits_pulledStatus (pulled p : Byte) :
    OnlyBits [0, 1, 2, 3, 6, 7] p (pulledStatus pulled p) := by
  intro k hk
  have h := flag_pulledStatus pulled p k
  by_cases hkeep : k = 4 ∨ k = 5
  · rwa [if_pos hkeep] at h
  · have hout : 8 ≤ k := by simp at hk; omega
    rw [BitVec.getLsbD_of_ge _ _ hout, BitVec.getLsbD_of_ge _ _ hout]

/-! ### What each shared operation writes -/

section
variable {s t : State} {o : Operand} {ks : List Nat}

theorem loadA_writesOnly (h : loadA o s = .next t) : WritesOnly { a := true, flags := [1, 7] } s t := by
  cases h
  constructor <;> simp

theorem loadX_writesOnly (h : loadX o s = .next t) : WritesOnly { x := true, flags := [1, 7] } s t := by
  cases h
  constructor <;> simp

theorem loadY_writesOnly (h : loadY o s = .next t) : WritesOnly { y := true, flags := [1, 7] } s t := by
  cases h
  constructor <;> simp

theorem store_writesOnly {v : Byte} (h : store o v s = .next t) : WritesOnly {} s t := by
  cases h
  constructor <;> simp

theorem intoA_writesOnly {r : Byte} (h : intoA (znOut s.p r) s = .next t) :
    WritesOnly { a := true, flags := [1, 7] } s t := by
  cases h
  constructor <;> simp [znOut]

theorem intoX_writesOnly {r : Byte} (h : intoX (znOut s.p r) s = .next t) :
    WritesOnly { x := true, flags := [1, 7] } s t := by
  cases h
  constructor <;> simp [znOut]

theorem intoY_writesOnly {r : Byte} (h : intoY (znOut s.p r) s = .next t) :
    WritesOnly { y := true, flags := [1, 7] } s t := by
  cases h
  constructor <;> simp [znOut]

theorem accumulate_writesOnly {f : Byte → Byte → Byte → AluOut} (h : accumulate f o s = .next t)
    (hf : ∀ a m p, OnlyBits ks p (f a m p).status) : WritesOnly { a := true, flags := ks } s t := by
  cases h
  constructor <;> simp [hf]

theorem modify_writesOnly {f : Byte → Byte → AluOut} (h : modify f o s = .next t)
    (hf : ∀ v p, OnlyBits ks p (f v p).status) : WritesOnly { flags := ks } s t := by
  cases h
  constructor <;> simp [hf]

theorem shiftA_writesOnly {f : Byte → Byte → AluOut} (h : shiftA f s = .next t)
    (hf : ∀ v p, OnlyBits ks p (f v p).status) : WritesOnly { a := true, flags := ks } s t := by
  cases h
  constructor <;> simp [hf]

theorem compareWith_writesOnly {reg : Byte} (h : compareWith reg o s = .next t) :
    WritesOnly { flags := [0, 1, 7] } s t := by
  cases h
  constructor <;> simp

theorem testBits_writesOnly (h : testBits o s = .next t) : WritesOnly { flags := [1, 6, 7] } s t := by
  cases h
  constructor <;> simp

theorem branch_writesOnly {holds : Bool} {rel8 : Byte} (h : branch holds rel8 s = .next t) :
    WritesOnly {} s t := by
  cases holds <;> cases h <;> constructor <;> simp

theorem writeFlag_writesOnly {k : Nat} {b : Bool} (hk : k < 8) (h : writeFlag k b s = .next t) :
    WritesOnly { flags := [k] } s t := by
  cases h
  constructor <;> simp [onlyBits_setFlag, hk]

theorem push_writesOnly {n : Word} {v : Byte} (h : finish n (s.push v) = .next t) :
    WritesOnly { sp := true } s t := by
  cases h
  constructor <;> simp

theorem pushWord_writesOnly {target w : Word} (h : transferTo target (s.pushWord w) = .next t) :
    WritesOnly { sp := true } s t := by
  cases h
  constructor <;> simp [State.pushWord_eq]

end

/-- Every instruction stays inside its row of the table (R10 to R12, R16 to R19). -/
theorem exec_writesOnly {i : Instr} {s t : State} (h : exec i s = .next t) : WritesOnly i.writes s t := by
  cases i
  case ldaImm | ldaZp | ldaZpx | ldaAbs | ldaAbx | ldaAby | ldaIzx | ldaIzy =>
    exact loadA_writesOnly h
  case ldxImm | ldxZp | ldxZpy | ldxAbs | ldxAby =>
    exact loadX_writesOnly h
  case ldyImm | ldyZp | ldyZpx | ldyAbs | ldyAbx =>
    exact loadY_writesOnly h
  case staZp | staZpx | staAbs | staAbx | staAby | staIzx | staIzy | stxZp | stxZpy | stxAbs | styZp | styZpx
    | styAbs =>
    exact store_writesOnly h
  case txa | tya =>
    exact intoA_writesOnly h
  case tax | tsx | inx | dex =>
    exact intoX_writesOnly h
  case tay | iny | dey =>
    exact intoY_writesOnly h
  case incZp | incZpx | incAbs | incAbx | decZp | decZpx | decAbs | decAbx =>
    exact modify_writesOnly h fun _ _ => onlyBits_setZN _ _
  case aslZp | aslZpx | aslAbs | aslAbx | lsrZp | lsrZpx | lsrAbs | lsrAbx | rolZp | rolZpx | rolAbs | rolAbx
    | rorZp | rorZpx | rorAbs | rorAbx =>
    exact modify_writesOnly h fun _ _ => onlyBits_shiftOut _ _ _
  case aslAcc | lsrAcc | rolAcc | rorAcc =>
    exact shiftA_writesOnly h fun _ _ => onlyBits_shiftOut _ _ _
  case adcImm | adcZp | adcZpx | adcAbs | adcAbx | adcAby | adcIzx | adcIzy | sbcImm | sbcZp | sbcZpx | sbcAbs
    | sbcAbx | sbcAby | sbcIzx | sbcIzy =>
    exact accumulate_writesOnly h fun _ _ _ => onlyBits_adcCore _ _ _
  case andImm | andZp | andZpx | andAbs | andAbx | andAby | andIzx | andIzy | oraImm | oraZp | oraZpx | oraAbs
    | oraAbx | oraAby | oraIzx | oraIzy | eorImm | eorZp | eorZpx | eorAbs | eorAbx | eorAby | eorIzx | eorIzy =>
    exact accumulate_writesOnly h fun _ _ _ => onlyBits_setZN _ _
  case cmpImm | cmpZp | cmpZpx | cmpAbs | cmpAbx | cmpAby | cmpIzx | cmpIzy | cpxImm | cpxZp | cpxAbs | cpyImm
    | cpyZp | cpyAbs =>
    exact compareWith_writesOnly h
  case bitZp | bitAbs =>
    exact testBits_writesOnly h
  case bccRel | bcsRel | beqRel | bmiRel | bneRel | bplRel | bvcRel | bvsRel =>
    exact branch_writesOnly h
  case clc | cld | cli | clv | sec | sed | sei =>
    exact writeFlag_writesOnly (by decide) h
  case pha | php =>
    exact push_writesOnly h
  case jsrAbs =>
    exact pushWord_writesOnly h
  case pla =>
    cases h
    exact ⟨nofun, fun _ => rfl, fun _ => rfl, nofun, onlyBits_setZN _ _⟩
  case plp | rti =>
    cases h
    exact ⟨fun _ => rfl, fun _ => rfl, fun _ => rfl, nofun, onlyBits_pulledStatus _ _⟩
  case txs | rts =>
    cases h
    exact ⟨fun _ => rfl, fun _ => rfl, fun _ => rfl, nofun, onlyBits_refl _ _⟩
  case jmpAbs | jmpInd | nop | brk =>
    cases h
    exact ⟨fun _ => rfl, fun _ => rfl, fun _ => rfl, fun _ => rfl, onlyBits_refl _ _⟩

/-! ### The step of a profile, and the statements -/

/-- The step fetches instructions of its profile only (R4, R87). -/
theorem State.wellFormed_of_fetch {profile : Profile} {s : State} {i : Instr} (h : s.fetch profile = some i) :
    i.wellFormed profile := by
  unfold State.fetch at h
  cases hd : dispatch profile (s.read s.pc) with
  | none => simp [hd] at h
  | some shape =>
    obtain ⟨hfits, hin⟩ := dispatch_fits hd
    have hop : i.opcode = s.read s.pc := by
      cases shape with
      | implied j =>
        obtain rfl : j = i := by simpa [hd] using h
        rw [Instr.opcode, hfits.1, List.headD_cons]
      | byte f =>
        obtain rfl : f (s.read (s.pc + 1#16)) = i := by simpa [hd] using h
        rw [Instr.opcode, (hfits _).1, List.headD_cons]
      | word f =>
        obtain rfl : f (s.readWord (s.pc + 1#16)) = i := by simpa [hd] using h
        rw [Instr.opcode, (hfits _).1, List.headD_cons]
    rw [← inProfile_opcode, hop, hin]

/-- Settles O16: bits 4 and 5 are in no row of the table; PLP and RTI keep them by `pulledStatus`. -/
theorem breakAndUnusedBitsNeverWritten : Obligations.BreakAndUnusedBitsNeverWritten := by
  unfold Obligations.BreakAndUnusedBitsNeverWritten
  intro i s t h
  obtain ⟨h4, h5⟩ := i.mnemonic.break_unused_not_mem_writes
  rw [← i.writes_flags] at h4 h5
  exact ⟨(exec_writesOnly h).flags 4 h4, (exec_writesOnly h).flags 5 h5⟩

/-- An instruction of the `MINIMUM` profile writes no flag but zero and negative, and neither `Y` nor `SP`. -/
theorem exec_minimum_writes {i : Instr} {s t : State} (hi : i.inMinimum) (h : exec i s = .next t) :
    OnlyBits [1, 7] s.p t.p ∧ t.y = s.y ∧ t.sp = s.sp := by
  rw [i.inMinimum_eq, decide_eq_true_iff] at hi
  obtain ⟨hy, hsp, hflags⟩ := Mnemonic.writes_minimum _ hi
  rw [← i.writes_y] at hy
  rw [← i.writes_sp] at hsp
  rw [← i.writes_flags] at hflags
  have hw := exec_writesOnly h
  exact ⟨onlyBits_mono hflags hw.flags, hw.y hy, hw.sp hsp⟩

/-- Settles O17: a MINIMUM step keeps the state, raises the unassigned opcode, or runs an instruction of the profile,
and those write no other flag and no other register. -/
theorem minimumProfileWritesOnlyZeroAndNegative : Obligations.MinimumProfileWritesOnlyZeroAndNegative := by
  unfold Obligations.MinimumProfileWritesOnlyZeroAndNegative
  intro s t h
  obtain ⟨-, rfl⟩ | ⟨-, i, hfetch, hexec⟩ | ⟨-, -, rfl⟩ := stepIn_next_cases h
  · exact ⟨onlyBits_refl _ _, rfl, rfl⟩
  · exact exec_minimum_writes (s := s.pastOpcode) (State.wellFormed_of_fetch hfetch) hexec
  · exact ⟨onlyBits_refl _ _, rfl, rfl⟩

/-- Settles O20: each list of writers is the table read by that register. -/
theorem registerWriters : Obligations.RegisterWriters := by
  unfold Obligations.RegisterWriters
  intro i s t h
  have hw := exec_writesOnly h
  refine ⟨fun hm hacc => hw.a ?_, fun hm => hw.x ?_, fun hm => hw.y ?_, fun hm => hw.sp ?_⟩
  · rwa [Instr.writes_of_format_ne hacc, Mnemonic.writes_a_iff]
  · rwa [Instr.writes_x, Mnemonic.writes_x_iff]
  · rwa [Instr.writes_y, Mnemonic.writes_y_iff]
  · rwa [Instr.writes_sp, Mnemonic.writes_sp_iff]

/-- Settles O21: each list of writers is the table read by that flag. -/
theorem flagWriters : Obligations.FlagWriters := by
  unfold Obligations.FlagWriters
  intro i s t h
  have hflags := (exec_writesOnly h).flags
  rw [i.writes_flags] at hflags
  refine ⟨fun hm => hflags 0 ?_, fun hm => hflags 2 ?_, fun hm => hflags 3 ?_, fun hm => hflags 6 ?_, fun hm => ?_,
    fun hm => ?_⟩
  · rwa [Mnemonic.carry_mem_writes_iff]
  · rwa [Mnemonic.interrupt_mem_writes_iff]
  · rwa [Mnemonic.decimal_mem_writes_iff]
  · rwa [Mnemonic.overflow_mem_writes_iff]
  · rw [← Mnemonic.writes_flags_eq_nil_iff] at hm
    rwa [hm, onlyBits_nil_iff] at hflags
  · obtain ⟨hzero, hnegative⟩ := Mnemonic.zero_negative_not_mem_writes _ hm
    exact ⟨hflags 1 hzero, hflags 7 hnegative⟩

end Machine

end Sys2Proof
end

section
/-! PROOFS. The memory bus (spec/20_memory.md sections 2, 3 and 5): what a read gives and what a write does in each
region, which addresses name one cell, and the two bytes of a word. -/

namespace Sys2Proof.Machine

open Claims

/-! ### Reads by region -/

theorem State.read_ram {a : Word} (h : a.toNat ≤ 0x1FFF) (s : State) : s.read a = s.ram.get (a.toNat % 2048) := by
  simp only [State.read, busDecode_ram h]

theorem State.read_ppu {a : Word} (h : 0x2000 ≤ a.toNat) (h' : a.toNat ≤ 0x3FFF) (s : State) :
    s.read a = s.ppuReg.get (a.toNat % 8) := by
  simp only [State.read, busDecode_ppu h h']

theorem State.read_unmapped {a : Word} (h : 0x4000 ≤ a.toNat) (h' : a.toNat ≤ 0x7FFF) (s : State) :
    s.read a = 0x00#8 := by
  simp only [State.read, busDecode_unmapped h h']

theorem State.read_rom {a : Word} (h : 0x8000 ≤ a.toNat) (s : State) : s.read a = s.rom.get (a.toNat - 0x8000) := by
  simp only [State.read, busDecode_rom h]

/-- Settles O24: each clause is the read of one region. -/
theorem readsByRegion : Obligations.ReadsByRegion := by
  unfold Obligations.ReadsByRegion
  intro s a
  exact ⟨fun h => s.read_ram h, fun h h' => s.read_ppu h h', fun h h' => s.read_unmapped h h', fun h => s.read_rom h⟩

/-! ### Writes by region, and in the picture-unit window by selector -/

theorem State.write_ram {a : Word} (h : a.toNat ≤ 0x1FFF) (s : State) (v : Byte) :
    s.write a v = { s with ram := s.ram.set (a.toNat % 2048) v } := by
  simp only [State.write, busDecode_ram h]

theorem State.write_ppu {a : Word} (h : 0x2000 ≤ a.toNat) (h' : a.toNat ≤ 0x3FFF) (s : State) (v : Byte) :
    s.write a v = s.writePictureRegister (a.toNat % 8) v := by
  simp only [State.write, busDecode_ppu h h']

theorem State.write_unmapped {a : Word} (h : 0x4000 ≤ a.toNat) (h' : a.toNat ≤ 0x7FFF) (s : State) (v : Byte) :
    s.write a v = s := by
  simp only [State.write, busDecode_unmapped h h']

theorem State.write_rom {a : Word} (h : 0x8000 ≤ a.toNat) (s : State) (v : Byte) :
    s.write a v = { s with rom := s.rom.set (a.toNat - 0x8000) v } := by
  simp only [State.write, busDecode_rom h]

theorem State.writeControl_eq (s : State) (b : Byte) : s.writeControl b = { s with ctrl := b } := by
  ext <;> simp

/-- The selector of the control register (R44, R62). -/
theorem State.writePictureRegister_control (s : State) (v : Byte) :
    s.writePictureRegister 0 v = { s with ppuReg := s.ppuReg.set 0 v, ctrl := v } :=
  State.writeControl_eq _ v

/-- The selector of the address latch (R44, R62). -/
theorem State.writePictureRegister_latch (s : State) (v : Byte) :
    s.writePictureRegister 6 v = State.writeAddressLatch { s with ppuReg := s.ppuReg.set 6 v } v :=
  rfl

/-- The selectors that have a shadow byte alone (R44, R63). -/
theorem State.writePictureRegister_shadow {r : Nat} (h0 : r ≠ 0) (h6 : r ≠ 6) (s : State) (v : Byte) :
    s.writePictureRegister r v = { s with ppuReg := s.ppuReg.set r v } :=
  (if_neg h0).trans (if_neg h6)

/-- Settles O25: each clause is the write of one region, split in the picture-unit window by the selector. -/
theorem writesByRegion : Obligations.WritesByRegion := by
  unfold Obligations.WritesByRegion
  intro s a v
  refine ⟨fun h => s.write_ram h v, fun h h' h0 h6 => ?_, fun h h' h0 => ?_, fun h h' h6 => ?_,
    fun h h' => s.write_unmapped h h' v, fun h => s.write_rom h v⟩
  · rw [s.write_ppu h h', s.writePictureRegister_shadow h0 h6]
  · rw [s.write_ppu h h', h0, s.writePictureRegister_control]
  · rw [s.write_ppu h h', h6, s.writePictureRegister_latch]

/-! ### Addresses of one cell (R41 to R46) -/

theorem busDecode_eq_ram_iff {a : Word} {i : Nat} :
    busDecode a = .ram i ↔ a.toNat < 0x2000 ∧ a.toNat % 0x800 = i := by
  rcases busDecode_cases a with ⟨h, e⟩ | ⟨h, h', e⟩ | ⟨h, h', e⟩ | ⟨h, e⟩ <;> simp [e] <;> omega

theorem busDecode_eq_ppu_iff {a : Word} {r : Nat} :
    busDecode a = .ppu r ↔ 0x2000 ≤ a.toNat ∧ a.toNat < 0x4000 ∧ a.toNat % 8 = r := by
  rcases busDecode_cases a with ⟨h, e⟩ | ⟨h, h', e⟩ | ⟨h, h', e⟩ | ⟨h, e⟩ <;> simp [e] <;> omega

theorem busDecode_eq_rom_iff {a : Word} {i : Nat} :
    busDecode a = .rom i ↔ 0x8000 ≤ a.toNat ∧ a.toNat - 0x8000 = i := by
  rcases busDecode_cases a with ⟨h, e⟩ | ⟨h, h', e⟩ | ⟨h, h', e⟩ | ⟨h, e⟩ <;> simp [e] <;> omega

/-- `sameCell` is the decode table's own notion: the addresses decode alike, and to a cell. -/
theorem sameCell_iff_busDecode_eq (a b : Word) :
    sameCell a b ↔ busDecode b = busDecode a ∧ busDecode a ≠ .unmapped := by
  have hab : a = b ↔ a.toNat = b.toNat := BitVec.toNat_inj.symm
  rcases busDecode_cases a with ⟨h, e⟩ | ⟨h, h', e⟩ | ⟨h, h', e⟩ | ⟨h, e⟩
  · simp [sameCell, e, hab, busDecode_eq_ram_iff]
    omega
  · simp [sameCell, e, hab, busDecode_eq_ppu_iff]
    omega
  · simp [sameCell, e]
    omega
  · simp [sameCell, e, hab, busDecode_eq_rom_iff]
    omega

/-- Settles O23: a read after a write goes by the decoded cells, and `sameCell` says when they agree. -/
theorem readReturnsTheLatestWrite : Obligations.ReadReturnsTheLatestWrite := by
  unfold Obligations.ReadReturnsTheLatestWrite
  intro s a b v
  simp only [State.read_write, sameCell_iff_busDecode_eq]

/-! ### The bytes and addresses of a word access (R50 to R53) -/

theorem word_add_one_eq_ofNat (a : Word) : a + 1#16 = BitVec.ofNat 16 (a.toNat + 1) := by
  bv_omega

theorem lowByte_eq_ofNat (w : Word) : lowByte w = BitVec.ofNat 8 (w.toNat % 256) := by
  apply BitVec.eq_of_toNat_eq
  simp [toNat_lowByte]

theorem highByte_eq_ofNat (w : Word) : highByte w = BitVec.ofNat 8 (w.toNat / 256) := by
  apply BitVec.eq_of_toNat_eq
  rw [toNat_highByte, BitVec.toNat_ofNat]
  omega

/-- Settles O26: the definitions of the two word accesses, with their bytes and addresses written as numbers. -/
theorem wordAccessesAreTwoByteAccesses : Obligations.WordAccessesAreTwoByteAccesses := by
  unfold Obligations.WordAccessesAreTwoByteAccesses
  intro s a v
  constructor
  · rw [State.readWord, toNat_wordOf, word_add_one_eq_ofNat]
  · rw [State.writeWord, word_add_one_eq_ofNat, lowByte_eq_ofNat, highByte_eq_ofNat]

end Sys2Proof.Machine
end

section
/-! PROOFS. The picture-unit register shim (spec/20_memory.md section 4): the latch after each of its operations as a
number, and the step the control byte selects. -/

namespace Sys2Proof.Machine

open Claims

theorem State.toNat_getAddress (s : State) : s.getAddress.toNat = s.latchHi.toNat * 256 + s.latchLo.toNat :=
  toNat_wordOf _ _

/-- The latch after `write_address_latch` (R57). -/
theorem State.toNat_getAddress_writeAddressLatch (s : State) (b : Byte) :
    (s.writeAddressLatch b).getAddress.toNat = latchAfter s b := by
  have hmask : (s.writeAddressLatch b).getAddress =
      (State.maskLatch (if s.latchExpectHi then { s with latchHi := b } else { s with latchLo := b })).getAddress := rfl
  rw [hmask, State.toNat_maskLatch, State.toNat_getAddress, latchAfter]
  cases s.latchExpectHi <;> rfl

/-- Two latch writes from "expect high byte" (R57): the mask of the first has left six bits of the high byte. -/
theorem State.toNat_getAddress_two_writeAddressLatch {s : State} (h : s.latchExpectHi = true) (b c : Byte) :
    ((s.writeAddressLatch b).writeAddressLatch c).getAddress.toNat = b.toNat % 64 * 256 + c.toNat := by
  have hfirst := s.toNat_getAddress_writeAddressLatch b
  rw [State.toNat_getAddress, latchAfter, if_pos h] at hfirst
  have hlow : ¬ (s.writeAddressLatch b).latchExpectHi = true := by simp [h]
  rw [State.toNat_getAddress_writeAddressLatch, latchAfter, if_neg hlow]
  have := c.isLt
  have := s.latchLo.isLt
  have := (s.writeAddressLatch b).latchLo.isLt
  omega

/-- Settles O28: the latch is `latchAfter`, and the field lemmas of `writeAddressLatch` give the rest. -/
theorem addressLatchWrites : Obligations.AddressLatchWrites := by
  unfold Obligations.AddressLatchWrites
  intro s b c
  refine ⟨⟨s.toNat_getAddress_writeAddressLatch b, s.writeAddressLatch_latchExpectHi b, ?_⟩, fun h => ⟨?_, ?_⟩⟩
  · ext <;> simp
  · exact State.toNat_getAddress_two_writeAddressLatch h b c
  · simp [h]

/-- The latch after `increment` (R59): a sum of low bytes below the old low byte is a carry into the high byte. -/
theorem State.toNat_getAddress_incrementLatch (s : State) (step : Byte) :
    (s.incrementLatch step).getAddress.toNat = (s.getAddress.toNat + step.toNat) % 0x4000 := by
  have := s.latchLo.isLt
  have := s.latchHi.isLt
  have := step.isLt
  rw [State.incrementLatch, State.toNat_maskLatch, State.toNat_getAddress, State.toNat_getAddress]
  simp only [BitVec.toNat_add]
  split
  · rw [BitVec.toNat_add, BitVec.toNat_ofNat]
    omega
  · omega

/-- Settles O29: the latch as a number, and the field lemmas of `incrementLatch`. -/
theorem latchIncrement : Obligations.LatchIncrement := by
  unfold Obligations.LatchIncrement
  intro s step
  refine ⟨s.toNat_getAddress_incrementLatch step, ?_⟩
  ext <;> simp

theorem State.toNat_vramAddrIncrement (s : State) :
    s.vramAddrIncrement.toNat = if s.ctrl.toNat / 4 % 2 = 1 then 32 else 1 := by
  have hbit : s.ctrl.getLsbD Config.ctrlIncBit = decide (s.ctrl.toNat / 4 % 2 = 1) := Nat.testBit_eq_decide_div_mod_eq
  simp only [State.vramAddrIncrement, hbit, decide_eq_true_eq]
  split <;> rfl

/-- Settles O30: the toggle reset and the external increment are their definitions. -/
theorem controlByteAndToggle : Obligations.ControlByteAndToggle := by
  unfold Obligations.ControlByteAndToggle
  intro s b
  exact ⟨s.writeControl_eq b, s.toNat_vramAddrIncrement, s.toNat_getAddress, rfl, fun _ => rfl⟩

end Sys2Proof.Machine
end

section
/-! PROOFS. What a step does to the bus side of the state (spec/20_memory.md section 5): only storing instructions
change it, and the listed accesses of a step account for all of the change. -/

namespace Sys2Proof

/-- The instructions whose routine writes memory: the stores, INC and DEC, the pushes and JSR, and the shifts but for
their accumulator forms (R68). -/
def Instr.stores (i : Instr) : Bool :=
  i.mnemonic ∈ [.STA, .STX, .STY, .INC, .DEC, .PHA, .PHP, .JSR] ||
    (i.mnemonic ∈ [.ASL, .LSR, .ROL, .ROR] && i.format ≠ .ACC)

theorem Instr.stores_eq_false_iff {i : Instr} : i.stores = false ↔
    i.mnemonic ∉ [.STA, .STX, .STY, .INC, .DEC, .PHA, .PHP, .JSR] ∧
    (i.mnemonic ∉ [.ASL, .LSR, .ROL, .ROR] ∨ i.format = .ACC) := by
  simp only [Instr.stores, Bool.or_eq_false_iff, Bool.and_eq_false_iff, decide_eq_false_iff_not, not_not]

namespace Machine

open Claims

/-! ### Instructions that do not store -/

theorem branch_sameBus {holds : Bool} {rel8 : Byte} {s t : State} (h : branch holds rel8 s = .next t) :
    s.sameBus t := by
  cases holds <;> cases h <;> exact s.sameBus_refl

/-- But for the branches, whose routine has two ends, an instruction that does not store is one update of registers. -/
theorem exec_sameBus {i : Instr} {s t : State} (hi : i.stores = false) (h : exec i s = .next t) : s.sameBus t := by
  cases i
  case staZp | staZpx | staAbs | staAbx | staAby | staIzx | staIzy | stxZp | stxZpy | stxAbs | styZp | styZpx | styAbs
    | incZp | incZpx | incAbs | incAbx | decZp | decZpx | decAbs | decAbx | aslZp | aslZpx | aslAbs | aslAbx
    | lsrZp | lsrZpx | lsrAbs | lsrAbx | rolZp | rolZpx | rolAbs | rolAbx | rorZp | rorZpx | rorAbs | rorAbx
    | pha | php | jsrAbs =>
    cases hi
  case bccRel | bcsRel | beqRel | bmiRel | bneRel | bplRel | bvcRel | bvsRel =>
    exact branch_sameBus h
  all_goals
    cases h
    exact s.sameBus_refl

/-- Settles O22: the bus side is the same, so every byte reads as before. -/
theorem onlyStoringInstructionsChangeMemory : Obligations.OnlyStoringInstructionsChangeMemory := by
  unfold Obligations.OnlyStoringInstructionsChangeMemory
  intro i s t h hstore hshift
  have hbus : s.sameBus t := exec_sameBus (Instr.stores_eq_false_iff.mpr ⟨hstore, hshift⟩) h
  exact ⟨hbus, State.read_of_sameBus hbus⟩

/-! ### The same writes from the same bus side -/

theorem State.sameBus_trans {s t u : State} (h : s.sameBus t) (h' : t.sameBus u) : s.sameBus u := by
  simp_all [State.sameBus]

theorem State.sameBus_pastOpcode (s : State) : s.sameBus s.pastOpcode := s.sameBus_refl

theorem State.sameBus_writeAddressLatch {s t : State} (h : s.sameBus t) (v : Byte) :
    (s.writeAddressLatch v).sameBus (t.writeAddressLatch v) := by
  obtain ⟨hram, hppu, hrom, hhi, hlo, htoggle, hctrl⟩ := h
  cases hs : s.latchExpectHi <;> simp_all [State.sameBus, State.writeAddressLatch, State.maskLatch, State.getAddress]

theorem State.sameBus_writePictureRegister {s t : State} (h : s.sameBus t) (r : Nat) (v : Byte) :
    (s.writePictureRegister r v).sameBus (t.writePictureRegister r v) := by
  obtain ⟨hram, hppu, hrom, hhi, hlo, htoggle, hctrl⟩ := h
  have hset : t.ppuReg.set r v = s.ppuReg.set r v := congrArg (·.set r v) hppu
  by_cases h0 : r = 0
  · subst h0
    rw [s.writePictureRegister_control, t.writePictureRegister_control]
    exact ⟨hram, hset, hrom, hhi, hlo, htoggle, rfl⟩
  by_cases h6 : r = 6
  · subst h6
    rw [s.writePictureRegister_latch, t.writePictureRegister_latch]
    apply State.sameBus_writeAddressLatch
    exact ⟨hram, hset, hrom, hhi, hlo, htoggle, hctrl⟩
  · rw [s.writePictureRegister_shadow h0 h6, t.writePictureRegister_shadow h0 h6]
    exact ⟨hram, hset, hrom, hhi, hlo, htoggle, hctrl⟩

theorem State.sameBus_write {s t : State} (h : s.sameBus t) (a : Word) (v : Byte) :
    (s.write a v).sameBus (t.write a v) := by
  unfold State.write
  cases busDecode a with
  | ram i =>
    obtain ⟨hram, hrest⟩ := h
    exact ⟨congrArg (·.set i v) hram, hrest⟩
  | ppu r => exact State.sameBus_writePictureRegister h r v
  | rom i =>
    obtain ⟨hram, hppu, hrom, hrest⟩ := h
    exact ⟨hram, hppu, congrArg (·.set i v) hrom, hrest⟩
  | unmapped => exact h

theorem State.sameBus_perform {s t : State} (h : s.sameBus t) (l : List Access) :
    (s.perform l).sameBus (t.perform l) := by
  induction l generalizing s t with
  | nil => exact h
  | cons access l ih =>
    cases access with
    | read a v => exact ih h
    | write a v => exact ih (State.sameBus_write h a v)

/-! ### Lists of reads -/

/-- The list holds reads only, each of the byte that stands at its address in `s`. -/
def State.OnlyReads (s : State) (l : List Access) : Prop := ∀ r ∈ l, ∃ a, r = s.readAccess a

@[simp] theorem State.onlyReads_nil (s : State) : s.OnlyReads [] := nofun

@[simp] theorem State.onlyReads_cons (s : State) (a : Word) (l : List Access) :
    s.OnlyReads (s.readAccess a :: l) ↔ s.OnlyReads l := by
  simp [State.OnlyReads]

@[simp] theorem State.onlyReads_append (s : State) (k l : List Access) :
    s.OnlyReads (k ++ l) ↔ s.OnlyReads k ∧ s.OnlyReads l := by
  simp [State.OnlyReads, or_imp, forall_and]

theorem State.perform_onlyReads {s : State} {l : List Access} (h : s.OnlyReads l) (t : State) : t.perform l = t := by
  induction l with
  | nil => rfl
  | cons access l ih =>
    obtain ⟨a, rfl⟩ := h access (by simp)
    rw [State.perform_readAccess, ih ((s.onlyReads_cons a l).mp h)]

@[simp] theorem Operand.onlyReads_accesses (o : Operand) (s : State) : s.OnlyReads (o.accesses s) := by
  cases o <;> simp [Operand.accesses, State.pointerAccesses]

@[simp] theorem onlyReads_readsOperand (o : Operand) (s : State) : s.OnlyReads (readsOperand o s) := by
  simp [readsOperand]

@[simp] theorem onlyReads_branchAccesses (taken : Bool) (s : State) : s.OnlyReads (branchAccesses taken s) := by
  cases taken <;> simp [branchAccesses]

theorem onlyReads_operandAccesses {m : Mnemonic} (hstore : m ∉ [.STA, .STX, .STY, .INC, .DEC, .PHA, .PHP, .JSR])
    (hshift : m ∉ [.ASL, .LSR, .ROL, .ROR]) (o : Operand) (s : State) : s.OnlyReads (operandAccesses m o s) := by
  cases m
  case STA | STX | STY | INC | DEC | JSR => exact absurd (by decide) hstore
  case ASL | LSR | ROL | ROR => exact absurd (by decide) hshift
  case LDA | LDX | LDY | ADC | SBC | AND | ORA | EOR | CMP | CPX | CPY | BIT => exact onlyReads_readsOperand o s
  case JMP => exact o.onlyReads_accesses s
  all_goals exact s.onlyReads_nil

theorem onlyReads_impliedAccesses {m : Mnemonic} (hstore : m ∉ [.STA, .STX, .STY, .INC, .DEC, .PHA, .PHP, .JSR])
    (s : State) : s.OnlyReads (impliedAccesses m s) := by
  cases m
  case PHA | PHP => exact absurd (by decide) hstore
  case BCC | BCS | BEQ | BMI | BNE | BPL | BVC | BVS => exact onlyReads_branchAccesses _ s
  case JMP | RTS | RTI | PLA | PLP => simp [impliedAccesses, State.pullAccess]
  all_goals exact s.onlyReads_nil

/-- An instruction that does not store makes reads only: an accumulator shift has no operand form. -/
theorem onlyReads_instrAccesses {i : Instr} (hi : i.stores = false) (s : State) : s.OnlyReads (instrAccesses i s) := by
  obtain ⟨hstore, hshift⟩ := Instr.stores_eq_false_iff.mp hi
  unfold instrAccesses
  split
  · rename_i o hmode
    have hacc : i.format ≠ .ACC := fun hf => by simp [hf, Format.mode, State.operandAt] at hmode
    exact onlyReads_operandAccesses hstore (hshift.resolve_right hacc) o s
  · exact onlyReads_impliedAccesses hstore s

/-! ### The operand field of a fetched instruction (R83, log 10) -/

/-- The operand field of the instruction, low byte first, is what stands at `PC`. -/
def State.FieldAtPc (s : State) (i : Instr) : Prop := (encode i).tail <+: [s.read s.pc, s.read (s.pc + 1#16)]

@[simp] theorem State.read_pastOpcode (s : State) (a : Word) : s.pastOpcode.read a = s.read a := rfl

theorem State.fieldAtPc_of_fetch {profile : Profile} {s : State} {i : Instr} (h : s.fetch profile = some i) :
    s.pastOpcode.FieldAtPc i := by
  unfold State.fetch at h
  cases hd : dispatch profile (s.read s.pc) with
  | none => simp [hd] at h
  | some shape =>
    obtain ⟨hfits, -⟩ := dispatch_fits hd
    cases shape with
    | implied j =>
      obtain rfl : j = i := by simpa [hd] using h
      simp [State.FieldAtPc, hfits.1]
    | byte f =>
      obtain rfl : f (s.read (s.pc + 1#16)) = i := by simpa [hd] using h
      simp [State.FieldAtPc, (hfits _).1]
    | word f =>
      obtain rfl : f (s.readWord (s.pc + 1#16)) = i := by simpa [hd] using h
      simp [State.FieldAtPc, (hfits _).1, State.readWord]

theorem byte_eq_of_field {b x y : Byte} (h : [b] <+: [x, y]) : b = x := by
  simpa using h

theorem word_eq_of_field {w : Word} {x y : Byte} (h : [lowByte w, highByte w] <+: [x, y]) : w = wordOf x y := by
  obtain ⟨rfl, rfl⟩ : lowByte w = x ∧ highByte w = y := by simpa using h
  exact (wordOf_lowByte_highByte w).symm

/-! ### Accesses that explain a change of state -/

/-- The list is reads in `s`, then at most two writes, which made in order from `s` give the bus side of `t`. -/
def Explains (s t : State) (l : List Access) : Prop :=
  ∃ reads writes, l = reads ++ writes ∧ s.OnlyReads reads ∧ (∀ w ∈ writes, ∃ a v, w = .write a v) ∧
    writes.length ≤ 2 ∧ (s.perform writes).sameBus t

section
variable {s t : State} {o : Operand} {l : List Access}

theorem onlyReads_explains (hl : s.OnlyReads l) (h : s.sameBus t) : Explains s t l :=
  ⟨l, [], (List.append_nil l).symm, hl, nofun, by simp, h⟩

theorem oneWrite_explains {a : Word} {v : Byte} (hl : s.OnlyReads l) (h : (s.write a v).sameBus t) :
    Explains s t (l ++ [.write a v]) :=
  ⟨l, [.write a v], rfl, hl, by simp, by simp, h⟩

theorem store_explained {v : Byte} (h : store o v s = .next t) : Explains s t (storesOperand v o s) := by
  cases h
  exact oneWrite_explains (o.onlyReads_accesses s) (State.sameBus_refl _)

/-- The hypothesis on the operand byte says that the form is not the immediate one. -/
theorem modify_explained {f : Byte → Byte → AluOut} (ho : o.value s = s.read (o.addr s)) (h : modify f o s = .next t) :
    Explains s t (modifiesOperand f o s) := by
  cases h
  rw [modifiesOperand, ← ho]
  exact oneWrite_explains (onlyReads_readsOperand o s) (State.sameBus_refl _)

theorem push_explained {n : Word} {v : Byte} (h : finish n (s.push v) = .next t) :
    Explains s t [.write (stackAddr s.sp) v] := by
  cases h
  exact oneWrite_explains s.onlyReads_nil (State.sameBus_refl _)

/-- The second push writes from the state after the first, which differs in `SP` from the state after its write. -/
theorem pushWord_explained {target w : Word} (h : transferTo target (s.pushWord w) = .next t) :
    Explains s t (o.accesses s ++
      [.write (stackAddr s.sp) (highByte w), .write (stackAddr (s.sp - 1#8)) (lowByte w)]) := by
  cases h
  refine ⟨_, _, rfl, o.onlyReads_accesses s, by simp, by simp, ?_⟩
  have hfirst : (s.write (stackAddr s.sp) (highByte w)).sameBus (s.push (highByte w)) := State.sameBus_refl _
  exact State.sameBus_write hfirst (stackAddr (s.sp - 1#8)) (lowByte w)

end

/-- A storing instruction: the access list takes the operand from memory and the routine from the instruction's own
field, and the two agree. -/
theorem exec_storing_explained {i : Instr} {s t : State} (hi : i.stores = true) (hfield : s.FieldAtPc i)
    (h : exec i s = .next t) : Explains s t (instrAccesses i s) := by
  cases i
  case staZp | staZpx | staIzx | staIzy | stxZp | stxZpy | styZp | styZpx =>
    cases byte_eq_of_field hfield
    exact store_explained h
  case staAbs | staAbx | staAby | stxAbs | styAbs =>
    cases word_eq_of_field hfield
    exact store_explained h
  case incZp | incZpx | decZp | decZpx | aslZp | aslZpx | lsrZp | lsrZpx | rolZp | rolZpx | rorZp | rorZpx =>
    cases byte_eq_of_field hfield
    exact modify_explained rfl h
  case incAbs | incAbx | decAbs | decAbx | aslAbs | aslAbx | lsrAbs | lsrAbx | rolAbs | rolAbx | rorAbs | rorAbx =>
    cases word_eq_of_field hfield
    exact modify_explained rfl h
  case jsrAbs =>
    cases word_eq_of_field hfield
    exact pushWord_explained h
  case pha | php =>
    exact push_explained h
  all_goals cases hi

theorem exec_explained {i : Instr} {s t : State} (hfield : s.FieldAtPc i) (h : exec i s = .next t) :
    Explains s t (instrAccesses i s) := by
  cases hi : i.stores with
  | true => exact exec_storing_explained hi hfield h
  | false => exact onlyReads_explains (onlyReads_instrAccesses hi s) (exec_sameBus hi h)

/-- The step of a RUNNING machine: the opcode read, then accesses that explain the rest (R68); none where the byte has
no routine (R231, log 6). -/
theorem stepIn_explained (profile : Profile) {s : State} (hrun : s.runState = .running) :
    ∃ t l, stepIn profile s = .next t ∧ s.stepAccesses profile = s.readAccess s.pc :: l ∧
      Explains s.pastOpcode t l := by
  rw [stepIn_running hrun]
  simp only [State.stepAccesses, hrun]
  cases hf : s.fetch profile with
  | some i =>
    obtain ⟨t, ht, -⟩ := exec_bus i s.pastOpcode
    exact ⟨t, _, (State.runningStep_fetched hf).trans ht, rfl, exec_explained (State.fieldAtPc_of_fetch hf) ht⟩
  | none =>
    exact ⟨_, [], State.runningStep_unassigned hf, rfl,
      onlyReads_explains (State.onlyReads_nil _) (State.sameBus_refl _)⟩

/-- Settles O27: the accesses after the opcode read explain the step from the state past the opcode, whose bytes and
bus side are those of the state before it. -/
theorem accessesExplainTheStep : Obligations.AccessesExplainTheStep := by
  unfold Obligations.AccessesExplainTheStep
  intro profile s hrun
  obtain ⟨t, l, hstep, hl, reads, writes, rfl, hreads, hwrites, hlen, hbus⟩ := stepIn_explained profile hrun
  refine ⟨t, hstep, ?_, reads, writes, hl, hreads, hwrites, hlen⟩
  rw [hl, State.perform_readAccess, State.perform_append, State.perform_onlyReads hreads]
  exact State.sameBus_trans (State.sameBus_perform s.sameBus_pastOpcode writes) hbus

end Machine

end Sys2Proof
end

section
/-! PROOFS. The encoding of spec/30_encoding.md sections 1 and 3: decoder and encoder read one opcode map. The map reaches
every instruction, the shape it gives an opcode byte fixes what that byte completes, and so each inverts the other. -/

namespace Sys2Proof

/-- The instructions a shape completes, one for each value of its operand field. -/
inductive Shape.Completes : Shape → Instr → Prop where
  | implied (i : Instr) : (Shape.implied i).Completes i
  | byte (f : Byte → Instr) (b : Byte) : (Shape.byte f).Completes (f b)
  | word (f : Word → Instr) (w : Word) : (Shape.word f).Completes (f w)

/-! ### The opcode byte and the length of an instruction (R80) -/

@[simp] theorem head?_encode (i : Instr) : (encode i).head? = some i.opcode := by
  cases i <;> rfl

theorem length_encode (i : Instr) : (encode i).length = i.length := by
  cases i <;> rfl

theorem Format.operandLength_le_two (f : Format) : f.operandLength ≤ 2 := by
  cases f <;> decide

/-! ### The opcode map reaches every instruction (R84, R86) -/

/-- The grid of R86 has a cell for every instruction, under its own opcode. -/
theorem exists_dispatch_full_opcode (i : Instr) :
    ∃ shape, dispatch .full i.opcode = some shape ∧ shape.Completes i := by
  cases i <;> exact ⟨_, rfl, by constructor⟩

/-- A profile dispatches the opcode of each instruction that is well-formed in it. -/
theorem exists_dispatch_opcode {profile : Profile} {i : Instr} (hwf : i.wellFormed profile = true) :
    ∃ shape, dispatch profile i.opcode = some shape ∧ shape.Completes i := by
  have hin : inProfile profile i.opcode = true := (inProfile_opcode profile i).trans hwf
  rw [dispatch, if_pos hin, ← dispatch_full]
  exact exists_dispatch_full_opcode i

/-- All instructions that one shape completes under an opcode byte have one mnemonic and one format. -/
theorem Shape.Fits.record_eq {opcode : Byte} {shape : Shape} (hfits : shape.Fits opcode) {i j : Instr}
    (hi : shape.Completes i) (hj : shape.Completes j) : i.record = j.record := by
  cases hi with
  | implied => cases hj; rfl
  | byte f b =>
    cases hj with
    | byte _ c => exact (hfits b).2.2.trans (hfits c).2.2.symm
  | word f w =>
    cases hj with
    | word _ v => exact (hfits w).2.2.trans (hfits v).2.2.symm

theorem record_eq_of_opcode_eq {i j : Instr} (h : i.opcode = j.opcode) : i.record = j.record := by
  obtain ⟨shape, hdi, hi⟩ := exists_dispatch_full_opcode i
  obtain ⟨shape', hdj, hj⟩ := exists_dispatch_full_opcode j
  obtain rfl : shape = shape' := Option.some.inj (hdi.symm.trans (h ▸ hdj))
  exact (dispatch_fits hdi).1.record_eq hi hj

/-! ### Decoder and encoder invert each other (R81 to R84) -/

/-- What a dispatched shape completes is decoded from its own words. -/
theorem decode_encode_append {profile : Profile} {i : Instr} {shape : Shape}
    (hd : dispatch profile i.opcode = some shape) (hi : shape.Completes i) (rest : List Byte) :
    decode profile (encode i ++ rest) = .ok (i, rest) := by
  obtain ⟨hfits, -⟩ := dispatch_fits hd
  cases hi with
  | implied => simp [hfits.1, decode, hd]
  | byte f b => simp [(hfits b).1, decode, hd]
  | word f w => simp [(hfits w).1, decode, hd]

theorem encode_append_of_decode {profile : Profile} {opcode : Byte} {operand : List Byte} {i : Instr}
    {rest : List Byte} (h : decode profile (opcode :: operand) = .ok (i, rest)) :
    encode i ++ rest = opcode :: operand := by
  obtain ⟨shape, hd⟩ := dispatch_of_decode h
  obtain ⟨hfits, -⟩ := dispatch_fits hd
  cases shape with
  | implied j =>
    obtain ⟨rfl, rfl⟩ : j = i ∧ operand = rest := by simpa [decode, hd] using h
    simp [hfits.1]
  | byte f =>
    rcases operand with _ | ⟨b, tail⟩
    · simp [decode, hd] at h
    · obtain ⟨rfl, rfl⟩ : f b = i ∧ tail = rest := by simpa [decode, hd] using h
      simp [(hfits b).1]
  | word f =>
    rcases operand with _ | ⟨lo, _ | ⟨hi, tail⟩⟩
    · simp [decode, hd] at h
    · simp [decode, hd] at h
    · obtain ⟨rfl, rfl⟩ : f (wordOf lo hi) = i ∧ tail = rest := by simpa [decode, hd] using h
      simp [(hfits _).1]

/-- What decodes begins with the opcode of a well-formed instruction. -/
theorem wellFormed_of_decode {profile : Profile} {opcode : Byte} {operand : List Byte} {i : Instr}
    {rest : List Byte} (h : decode profile (opcode :: operand) = .ok (i, rest)) : i.wellFormed profile = true := by
  obtain ⟨shape, hd⟩ := dispatch_of_decode h
  have hop : i.opcode = opcode := by simpa using congrArg List.head? (encode_append_of_decode h)
  rw [← inProfile_opcode, hop]
  exact (dispatch_fits hd).2

/-! ### The statements -/

/-- Settles O1: the profile dispatches the instruction's opcode to a shape that completes it. -/
theorem decodeInvertsEncode : Obligations.DecodeInvertsEncode := by
  unfold Obligations.DecodeInvertsEncode
  intro profile i rest hwf
  obtain ⟨shape, hd, hi⟩ := exists_dispatch_opcode hwf
  exact decode_encode_append hd hi rest

/-- Settles O2: the shape of the first byte says which words decode to what it completes, and the profile has that
byte. -/
theorem encodeInvertsDecode : Obligations.EncodeInvertsDecode := by
  unfold Obligations.EncodeInvertsDecode
  intro profile bytes i rest h
  cases bytes with
  | nil => cases h
  | cons opcode operand => exact ⟨wellFormed_of_decode h, encode_append_of_decode h⟩

/-- Settles O5: instructions with one opcode are completed by one cell of the grid, whose format gives the length. -/
theorem opcodeDeterminesRecordAndLength : Obligations.OpcodeDeterminesRecordAndLength := by
  unfold Obligations.OpcodeDeterminesRecordAndLength
  constructor
  · intro i j hhead
    exact record_eq_of_opcode_eq (by simpa using hhead)
  · intro i
    have hlen : (encode i).length = 1 + i.format.operandLength := length_encode i
    have hle : i.format.operandLength ≤ 2 := i.format.operandLength_le_two
    omega

end Sys2Proof
end

section
/-! PROOFS. The step and the run loop (spec/40_step_addressing_flags.md section 1): the step runs the decoded
instruction, part (4) of the step advances `PC`, and the run loop repeats the step. -/

namespace Sys2Proof

/-- The instructions that branch, jump, return or halt (R102, R103): part (4) of the step does not follow them. -/
def Instr.leavesLine (i : Instr) : Bool :=
  i.mnemonic ∈ [.BCC, .BCS, .BEQ, .BMI, .BNE, .BPL, .BVC, .BVS, .JMP, .JSR, .RTS, .RTI, .BRK]

namespace Machine

open Claims

/-! ### The step (R100, R101) -/

/-- Settles O7: the step fetches what the bytes at `PC` decode to. -/
theorem stepRunsTheDecodedInstruction : Obligations.StepRunsTheDecodedInstruction := by
  unfold Obligations.StepRunsTheDecodedInstruction
  intro s i rest hrun hdecode
  calc step s = s.runningStep Config.isaProfile := stepIn_running hrun
    _ = exec i s.pastOpcode := State.runningStep_fetched (State.fetch_of_decode hdecode)

/-- A routine that does not transfer control leaves `PC` and `run_state` to part (4) of the step (R101): a bus write
and a push keep both, and the other routines update other registers only. -/
theorem exec_eq_finish {i : Instr} (hi : i.leavesLine = false) (s : State) :
    ∃ u, exec i s = finish (BitVec.ofNat 16 i.format.operandLength) u ∧ u.pc = s.pc ∧ u.runState = s.runState := by
  cases i
  case bccRel | bcsRel | beqRel | bmiRel | bneRel | bplRel | bvcRel | bvsRel | jmpAbs | jmpInd | jsrAbs | rts | rti
    | brk =>
    cases hi
  case staZp | staZpx | staAbs | staAbx | staAby | staIzx | staIzy | stxZp | stxZpy | stxAbs | styZp | styZpx | styAbs
    | incZp | incZpx | incAbs | incAbx | decZp | decZpx | decAbs | decAbx | aslZp | aslZpx | aslAbs | aslAbx
    | lsrZp | lsrZpx | lsrAbs | lsrAbx | rolZp | rolZpx | rolAbs | rolAbx | rorZp | rorZpx | rorAbs | rorAbx =>
    exact ⟨_, rfl, s.write_pc _ _, s.write_runState _ _⟩
  case pha | php =>
    exact ⟨_, rfl, s.push_pc _, s.push_runState _⟩
  all_goals exact ⟨_, rfl, rfl, rfl⟩

/-- Settles O19: part (4) of the step adds the operand length, modulo 65536, to the `PC` the routine left alone. -/
theorem pcAdvancesByTheOperandLength : Obligations.PcAdvancesByTheOperandLength := by
  unfold Obligations.PcAdvancesByTheOperandLength
  intro i s t h hi
  obtain ⟨u, hu, hpc, hrun⟩ := exec_eq_finish (i := i) (decide_eq_false hi) s
  obtain rfl : { u with pc := u.pc + BitVec.ofNat 16 i.format.operandLength } = t := by
    rw [hu, finish_eq] at h
    exact Host.Outcome.next.inj h
  refine ⟨?_, hrun⟩
  simp [hpc]

/-! ### The run loop (R123) -/

/-- A running step always answers a next state: an unassigned byte enters its fatal condition that way (log 6). -/
theorem exists_runningStep_next (profile : Profile) (s : State) : ∃ t, s.runningStep profile = .next t := by
  cases hf : s.fetch profile with
  | some i =>
    obtain ⟨t, ht, -⟩ := exec_bus i s.pastOpcode
    exact ⟨t, (State.runningStep_fetched hf).trans ht⟩
  | none => exact ⟨_, State.runningStep_unassigned hf⟩

theorem State.runLoop_succ_of_next {profile : Profile} {s t : State} (hrun : s.runState = .running)
    (hstep : s.runningStep profile = .next t) (n : Nat) : s.runLoop profile (n + 1) = t.runLoop profile n := by
  simp only [State.runLoop, hrun, hstep]

theorem State.runLoop_of_not_running (profile : Profile) (n : Nat) {s : State} (h : s.runState ≠ .running) :
    s.runLoop profile n = s := by
  cases n with
  | zero => rfl
  | succ n =>
    unfold State.runLoop
    split
    · contradiction
    · rfl

theorem State.runLoop_add (profile : Profile) (m n : Nat) (s : State) :
    s.runLoop profile (m + n) = (s.runLoop profile m).runLoop profile n := by
  induction m generalizing s with
  | zero => rw [Nat.zero_add, State.runLoop]
  | succ m ih =>
    by_cases hrun : s.runState = .running
    · obtain ⟨t, ht⟩ := exists_runningStep_next profile s
      rw [Nat.succ_add, State.runLoop_succ_of_next hrun ht, State.runLoop_succ_of_next hrun ht, ih]
    · simp only [State.runLoop_of_not_running profile _ hrun]

/-- Settles O33: the budgets add up by induction on the first, and a RUNNING machine's step always answers a state. -/
theorem runLoopStopsWhenNotRunning : Obligations.RunLoopStopsWhenNotRunning := by
  unfold Obligations.RunLoopStopsWhenNotRunning
  intro profile m n s
  refine ⟨s.runLoop_add profile m n, fun hrun => ?_, State.runLoop_of_not_running profile n⟩
  obtain ⟨t, ht⟩ := exists_runningStep_next profile s
  exact ⟨t, (stepIn_running hrun).trans ht, State.runLoop_succ_of_next hrun ht n⟩

end Machine

end Sys2Proof
end

section
/-! PROOFS. The Addressing Resolver (spec/40_step_addressing_flags.md section 2): effective addresses in arithmetic, the
operand forms of the instruction table, and the operand field of a form as the resolver finds it in memory. -/

namespace Sys2Proof.Machine

open Claims

/-! ### Effective addresses as numbers (R105 to R113) -/

theorem byte_add_eq_ofNat (a b : Byte) : a + b = BitVec.ofNat 8 (a.toNat + b.toNat) := by
  simp [BitVec.ofNat_add]

theorem zext16_eq_ofNat (b : Byte) : zext16 b = BitVec.ofNat 16 b.toNat :=
  (BitVec.ofNat_toNat 16 b).symm

theorem zext16_ofNat (n : Nat) : zext16 (BitVec.ofNat 8 n) = BitVec.ofNat 16 (n % 256) := by
  rw [zext16_eq_ofNat, BitVec.toNat_ofNat]

/-- The index of a word address (R110, R111, R113) is added modulo 65536. -/
theorem ofNat_add_zext16 (n : Nat) (b : Byte) : BitVec.ofNat 16 n + zext16 b = BitVec.ofNat 16 (n + b.toNat) := by
  rw [zext16_eq_ofNat, BitVec.ofNat_add]

theorem State.readWord_eq_ofNat (s : State) (a : Word) :
    s.readWord a = BitVec.ofNat 16 ((s.read (BitVec.ofNat 16 (a.toNat + 1))).toNat * 256 + (s.read a).toNat) := by
  rw [State.readWord, word_add_one_eq_ofNat, wordOf]

/-- Both bytes of a page-zero pointer wrap inside page zero (R112, R113). -/
theorem State.zeroPagePointer_ofNat (s : State) (n : Nat) :
    s.zeroPagePointer (BitVec.ofNat 8 n) = BitVec.ofNat 16
      ((s.read (BitVec.ofNat 16 ((n + 1) % 256))).toNat * 256 + (s.read (BitVec.ofNat 16 (n % 256))).toNat) := by
  rw [State.zeroPagePointer, ← BitVec.ofNat_add, zext16_ofNat, zext16_ofNat, wordOf]

theorem State.resolve_of_operandAt {s : State} {mode : AddressingMode} {o : Operand}
    (h : s.operandAt mode = some o) : s.resolve mode = .ok (o.addr s) := by
  rw [State.resolve, h]

/-- Settles O35: one clause for each mode, from the operand form the resolver sees at `PC`. -/
theorem resolverModes : Obligations.ResolverModes := by
  unfold Obligations.ResolverModes
  intro s b w zp
  have hbyte : s.read s.pc = BitVec.ofNat 8 b := by simp [b]
  have hword : s.readWord s.pc = BitVec.ofNat 16 w := s.readWord_eq_ofNat s.pc
  have hindex (i : Byte) : s.read s.pc + i = BitVec.ofNat 8 (b + i.toNat) := byte_add_eq_ofNat _ i
  refine ⟨rfl, ?_, ?_, ?_, ?_, ?_, ?_, ?_, ?_⟩
  all_goals simp only [State.resolve, State.operandAt, Operand.addr]
  · rw [zext16_eq_ofNat]
  · rw [hindex, zext16_ofNat]
  · rw [hindex, zext16_ofNat]
  · rw [hword]
  · rw [hword, ofNat_add_zext16]
  · rw [hword, ofNat_add_zext16]
  · rw [hindex, State.zeroPagePointer_ofNat]
  · rw [hbyte, State.zeroPagePointer_ofNat, ofNat_add_zext16]

/-! ### The operand forms (R81, R83) -/

/-- The operand field of a form: a byte, or a word with its low byte first (R83). -/
def Operand.field : Operand → List Byte
  | .imm b | .zp b | .zpx b | .zpy b | .izx b | .izy b => [b]
  | .abs w | .abx w | .aby w => [lowByte w, highByte w]

theorem Operand.length_eq (o : Operand) : o.length = BitVec.ofNat 16 o.field.length := by
  cases o <;> rfl

theorem Operand.mode_ne_noneAddressing (o : Operand) : o.mode ≠ .noneAddressing := by
  cases o <;> nofun

/-- The columns of a row of the form table agree: opcode and operand form with the encoding, the operand length, and
the addressing mode (R81, R83). -/
structure FormFits (f : Form) : Prop where
  encode_eq : encode f.instr = f.opcode :: f.operand.field
  n_eq : f.n = f.operand.field.length
  mode_eq : f.instr.format.mode = f.operand.mode

theorem fits_of_mem_allForms (b : Byte) (w : Word) : ∀ f ∈ allForms b w, FormFits f := by
  unfold allForms
  simp only [List.forall_mem_append]
  and_intros
  all_goals
    repeat refine List.forall_mem_cons.mpr ⟨⟨rfl, rfl, rfl⟩, ?_⟩
    exact List.forall_mem_nil _

theorem FormFits.encoded {f : Form} (hf : FormFits f) : f.encoded := by
  rw [Form.encoded, hf.encode_eq, hf.n_eq]
  exact ⟨rfl, List.length_cons⟩

/-- `PC` after a form's operand length is added (R101, D12). -/
theorem FormFits.pc_add_length {f : Form} (hf : FormFits f) (s : State) :
    s.pc + f.operand.length = f.pcAfter s := by
  rw [Form.pcAfter, BitVec.ofNat_add, BitVec.ofNat_toNat, BitVec.setWidth_eq, hf.n_eq, f.operand.length_eq]

/-- Settles O36: the form at `PC` is missing for `NoneAddressing` alone, and the form of an instruction has its mode. -/
theorem noneAddressingIsTheOnlyInvalidMode : Obligations.NoneAddressingIsTheOnlyInvalidMode := by
  unfold Obligations.NoneAddressingIsTheOnlyInvalidMode
  refine ⟨fun _ => rfl, fun s m hm => ?_, fun b w f hf => ?_⟩
  · cases m
    case noneAddressing => contradiction
    all_goals exact ⟨_, rfl⟩
  · rw [(fits_of_mem_allForms b w f hf).mode_eq]
    exact f.operand.mode_ne_noneAddressing

/-! ### The operand a meaning uses (R104, log 10) -/

section
variable {s : State} {o : Operand}

/-- A form whose field stands at `PC` is the one the resolver sees there. -/
theorem State.operandAt_of_field (h : o.field <+: [s.read s.pc, s.read (s.pc + 1#16)]) :
    s.operandAt o.mode = some o := by
  cases o
  case abs | abx | aby =>
    cases word_eq_of_field h
    rfl
  all_goals
    cases byte_eq_of_field h
    rfl

/-- The immediate operand stands at `PC`; the other forms read theirs at the effective address. -/
theorem Operand.read_addr_of_field (h : o.field <+: [s.read s.pc, s.read (s.pc + 1#16)]) :
    s.read (o.addr s) = o.value s := by
  cases o
  case imm => exact (byte_eq_of_field h).symm
  all_goals rfl

end

/-- Settles O37: the fetched field stands at `PC` past the opcode, where the resolver reads it. -/
theorem operandsAreWhatTheResolverFinds : Obligations.OperandsAreWhatTheResolverFinds := by
  unfold Obligations.OperandsAreWhatTheResolverFinds
  intro s b w f hf rest hdecode u
  have hfits : FormFits f := fits_of_mem_allForms b w f hf
  have hfield : f.operand.field <+: [u.read u.pc, u.read (u.pc + 1#16)] := by
    have hat : u.FieldAtPc f.instr := State.fieldAtPc_of_fetch (State.fetch_of_decode hdecode)
    rwa [State.FieldAtPc, hfits.encode_eq, List.tail_cons] at hat
  rw [hfits.mode_eq]
  exact ⟨State.resolve_of_operandAt (State.operandAt_of_field hfield), Operand.read_addr_of_field hfield⟩

end Sys2Proof.Machine
end

section
/-! PROOFS. The Status Flag Unit (spec/40_step_addressing_flags.md sections 3 and 4): `set_zn`, the flag instructions,
and ADC with its flags. -/

namespace Sys2Proof.Machine

open Claims

/-! ### `set_zn` and the single flags (R116, R117) -/

/-- Settles O38: `set_zn` bit by bit. -/
theorem setZeroAndNegative : Obligations.SetZeroAndNegative := by
  unfold Obligations.SetZeroAndNegative
  intro p r
  exact ⟨flag_setZN p r 1, flag_setZN p r 7, onlyBits_setZN p r⟩

theorem writesFlag_of_exec {i : Instr} {opcode : Byte} {s : State} {k : Nat} {b : Bool} (hk : k < 8)
    (hencode : encode i = [opcode]) (hexec : exec i s = writeFlag k b s) : WritesFlag i opcode s k b := by
  refine ⟨hencode, { s with p := setFlag s.p k b }, ?_, ?_, onlyBits_setFlag s.p b hk, rfl, fun _ => rfl⟩
  · rw [hexec, writeFlag, finish_eq, BitVec.add_zero]
  · exact (flag_setFlag s.p k k b hk).trans (if_pos rfl)

/-- Settles O58: each of the seven is `writeFlag` on its bit. -/
theorem flagInstructionResults : Obligations.FlagInstructionResults := by
  unfold Obligations.FlagInstructionResults
  intro s
  refine ⟨?_, ?_, ?_, ?_, ?_, ?_, ?_⟩
  all_goals exact writesFlag_of_exec (by decide) rfl rfl

/-! ### ADC (R118, R160) -/

theorem toNat_flag_bitC (s : State) : (flag s.p bitC).toNat = carry s := toNat_flag s.p bitC

theorem zeroNegative_adcCore (a m p : Byte) : ZeroNegative [0, 6] p (adcCore a m p).status (adcCore a m p).value :=
  ⟨flag_adcCore a m p 1, flag_adcCore a m p 7, onlyBits_mono (by decide) (onlyBits_adcCore a m p)⟩

theorem exec_of_mem_formsADC {b : Byte} {w : Word} (s : State) :
    ∀ f ∈ formsADC b w, exec f.instr s = accumulate adcCore f.operand s := by
  repeat refine List.forall_mem_cons.mpr ⟨rfl, ?_⟩
  exact List.forall_mem_nil _

theorem formsADC_subset_allForms (b : Byte) (w : Word) : formsADC b w ⊆ allForms b w := by
  unfold allForms
  intro f hf
  simp only [List.mem_append, hf, true_or, or_true]

/-- Settles O44: every form is `accumulate adcCore`, whose value and flags `flag_adcCore` gives. -/
theorem addWithCarryResult : Obligations.AddWithCarryResult := by
  unfold Obligations.AddWithCarryResult
  intro s b w f hf
  have hfits : FormFits f := fits_of_mem_allForms b w f (formsADC_subset_allForms b w hf)
  refine ⟨hfits.encoded, _, exec_of_mem_formsADC s f hf, ?_⟩
  refine ⟨?_, ?_, flag_adcCore _ _ s.p 6, zeroNegative_adcCore _ _ s.p, ?_, fun _ => rfl⟩
  · rw [← toNat_flag_bitC]
    exact toNat_adcCore_value _ _ s.p
  · rw [← toNat_flag_bitC]
    exact flag_adcCore _ _ s.p 0
  · rw [← hfits.pc_add_length]

end Sys2Proof.Machine
end

section
/-! PROOFS. Load and store (spec/41_load_store.md): the forms of the loads and of the stores, each as its shared
operation, and what one bus write leaves of the reads and of the shim. -/

namespace Sys2Proof.Machine

open Claims

/-! ### Loads (R130, R132, R133) -/

/-- A form that puts the byte `r` into a register and follows it with `set_zn` gives the register `r`. -/
theorem gives_of_exec_eq_finish {f : Form} {s : State} {r : Byte} {put : State → Byte → State} (hfits : FormFits f)
    (hexec : exec f.instr s = finish f.operand.length { put s r with p := setZN s.p r })
    (hpc : (put s r).pc = s.pc) (hreads : SameReads s (put s r)) : Gives f s r put := by
  refine ⟨hfits.encoded, _, hexec, setZeroAndNegative s.p r, ?_, hreads⟩
  rw [← hfits.pc_add_length, ← hpc]

theorem exec_of_mem_formsLoads (b : Byte) (w : Word) (s : State) :
    (∀ f ∈ formsLDA b w, exec f.instr s = loadA f.operand s) ∧
    (∀ f ∈ formsLDX b w, exec f.instr s = loadX f.operand s) ∧
    (∀ f ∈ formsLDY b w, exec f.instr s = loadY f.operand s) := by
  and_intros
  all_goals
    repeat refine List.forall_mem_cons.mpr ⟨rfl, ?_⟩
    exact List.forall_mem_nil _

/-- Settles O39: every form is the load of its register, which ends with `set_zn` and leaves the bus alone. -/
theorem loadResults : Obligations.LoadResults := by
  unfold Obligations.LoadResults
  intro s b w
  obtain ⟨hlda, hldx, hldy⟩ := exec_of_mem_formsLoads b w s
  have hfits : ∀ f ∈ allForms b w, FormFits f := fits_of_mem_allForms b w
  refine ⟨fun f hf => gives_of_exec_eq_finish (hfits f ?_) (hlda f hf) rfl fun _ => rfl,
    fun f hf => gives_of_exec_eq_finish (hfits f ?_) (hldx f hf) rfl fun _ => rfl,
    fun f hf => gives_of_exec_eq_finish (hfits f ?_) (hldy f hf) rfl fun _ => rfl⟩
  all_goals
    unfold allForms
    simp only [List.mem_append, hf, true_or, or_true]

/-! ### One bus write (R42, R44, R46, R47) -/

theorem inWindow_iff {a : Word} : inWindow a = true ↔ 0x2000 ≤ a.toNat ∧ a.toNat ≤ 0x3FFF := by
  simp [inWindow, Nat.lt_succ_iff]

/-- A write outside the picture-unit window leaves the shim alone (R42, R46, R47). -/
theorem State.write_shim_of_not_inWindow {a : Word} (h : ¬ inWindow a = true) (s : State) (v : Byte) :
    (s.write a v).ctrl = s.ctrl ∧ (s.write a v).latchExpectHi = s.latchExpectHi ∧
      (s.write a v).getAddress = s.getAddress := by
  rw [inWindow_iff] at h
  rcases busDecode_cases a with ⟨hram, -⟩ | ⟨hlo, hhi, -⟩ | ⟨hlo, hhi, -⟩ | ⟨hrom, -⟩
  · rw [s.write_ram hram]
    exact ⟨rfl, rfl, rfl⟩
  · exact absurd ⟨hlo, hhi⟩ h
  · rw [s.write_unmapped hlo hhi]
    exact ⟨rfl, rfl, rfl⟩
  · rw [s.write_rom hrom]
    exact ⟨rfl, rfl, rfl⟩

/-- What one bus write leaves: the reads by cell, and the shim by region and selector. -/
theorem State.storedAt_write (s : State) (a : Word) (v : Byte) : StoredAt s (s.write a v) a v := by
  refine ⟨fun b => readReturnsTheLatestWrite s a b v, ?_⟩
  by_cases hwindow : inWindow a = true
  case neg =>
    obtain ⟨hctrl, htoggle, hlatch⟩ := s.write_shim_of_not_inWindow hwindow v
    simp [hwindow, hctrl, htoggle, hlatch]
  case pos =>
    obtain ⟨hlo, hhi⟩ := inWindow_iff.mp hwindow
    rw [s.write_ppu hlo hhi]
    by_cases h0 : a.toNat % 8 = 0
    · rw [h0, s.writePictureRegister_control]
      simp [hwindow, State.getAddress]
    by_cases h6 : a.toNat % 8 = 6
    · rw [h6, s.writePictureRegister_latch, State.toNat_getAddress_writeAddressLatch]
      simp [hwindow, latchAfter]
    · rw [s.writePictureRegister_shadow h0 h6]
      simp [h0, h6, State.getAddress]

/-! ### Stores (R131, R134, R135) -/

theorem stores_of_exec_eq_store {f : Form} {s : State} {v : Byte} (hfits : FormFits f)
    (hexec : exec f.instr s = store f.operand v s) : Stores f s v := by
  refine ⟨hfits.encoded, _, hexec, ?_, s.write_p _ _, ?_, s.storedAt_write (f.operand.addr s) v⟩
  · exact ⟨s.write_a _ _, s.write_x _ _, s.write_y _ _, s.write_sp _ _, s.write_runState _ _⟩
  · rw [s.write_pc, hfits.pc_add_length]

theorem exec_of_mem_formsStores (b : Byte) (w : Word) (s : State) :
    (∀ f ∈ formsSTA b w, exec f.instr s = store f.operand s.a s) ∧
    (∀ f ∈ formsSTX b w, exec f.instr s = store f.operand s.x s) ∧
    (∀ f ∈ formsSTY b w, exec f.instr s = store f.operand s.y s) := by
  and_intros
  all_goals
    repeat refine List.forall_mem_cons.mpr ⟨rfl, ?_⟩
    exact List.forall_mem_nil _

/-- Settles O40: every form is the store of its register, one bus write at the effective address. -/
theorem storeResults : Obligations.StoreResults := by
  unfold Obligations.StoreResults
  intro s b w
  obtain ⟨hsta, hstx, hsty⟩ := exec_of_mem_formsStores b w s
  have hfits : ∀ f ∈ allForms b w, FormFits f := fits_of_mem_allForms b w
  refine ⟨fun f hf => stores_of_exec_eq_store (hfits f ?_) (hsta f hf),
    fun f hf => stores_of_exec_eq_store (hfits f ?_) (hstx f hf),
    fun f hf => stores_of_exec_eq_store (hfits f ?_) (hsty f hf)⟩
  all_goals
    unfold allForms
    simp only [List.mem_append, hf, true_or, or_true]

end Sys2Proof.Machine
end

section
/-! PROOFS. Transfers, increments and decrements (spec/42_transfer_incdec.md): a byte and its `set_zn` put into a
register by a one-byte instruction, or written back to the cell it was read from. -/

namespace Sys2Proof.Machine

open Claims

/-! ### One more and one less, modulo 256 -/

theorem byte_add_one_eq_ofNat (v : Byte) : v + 1#8 = BitVec.ofNat 8 (v.toNat + 1) := byte_add_eq_ofNat v 1#8

theorem byte_sub_one_eq_ofNat (v : Byte) : v - 1#8 = BitVec.ofNat 8 (v.toNat + 255) :=
  (BitVec.sub_eq_add_neg v 1#8).trans (byte_add_eq_ofNat v 255#8)

theorem incCore_eq_znOut (v p : Byte) : incCore v p = znOut p (BitVec.ofNat 8 (v.toNat + 1)) :=
  congrArg (znOut p) (byte_add_one_eq_ofNat v)

theorem decCore_eq_znOut (v p : Byte) : decCore v p = znOut p (BitVec.ofNat 8 (v.toNat + 255)) :=
  congrArg (znOut p) (byte_sub_one_eq_ofNat v)

/-! ### Memory forms (R150, R151) -/

/-- A form that is a read, change and write back writes its cell once and keeps the registers; the value and the status
are those of its byte function. -/
theorem modifies_of_exec_eq_modify {f : Form} {s : State} {core : Byte → Byte → AluOut} {out : AluOut}
    {c : Option Bool} (hfits : FormFits f) (hexec : exec f.instr s = modify core f.operand s)
    (hout : core (f.operand.value s) s.p = out) (hcarry : out.status.getLsbD 0 = c.getD (s.p.getLsbD 0))
    (hzn : ZeroNegative [0] s.p out.status out.value) : Modifies f s out.value c := by
  subst hout
  refine ⟨hfits.encoded, _, hexec, ?_, ?_, s.storedAt_write (f.operand.addr s) _, hcarry, hzn⟩
  · exact ⟨s.write_a _ _, s.write_x _ _, s.write_y _ _, s.write_sp _ _, s.write_runState _ _⟩
  · rw [← hfits.pc_add_length, ← s.write_pc (f.operand.addr s)]

theorem zeroNegative_setZN (ks : List Nat) (p r : Byte) : ZeroNegative ks p (setZN p r) r := by
  obtain ⟨hzero, hnegative, hrest⟩ := setZeroAndNegative p r
  exact ⟨hzero, hnegative, onlyBits_mono (by simp) hrest⟩

/-- A memory form whose status is `set_zn` of its byte keeps the carry. -/
theorem modifies_of_exec_eq_modify_znOut {f : Form} {s : State} {core : Byte → Byte → AluOut} {r : Byte}
    (hfits : FormFits f) (hexec : exec f.instr s = modify core f.operand s)
    (hout : core (f.operand.value s) s.p = znOut s.p r) : Modifies f s r none :=
  modifies_of_exec_eq_modify hfits hexec hout (flag_setZN s.p r 0) (zeroNegative_setZN [0] s.p r)

theorem exec_of_mem_formsIncrements (b : Byte) (w : Word) (s : State) :
    (∀ f ∈ formsINC b w, exec f.instr s = modify incCore f.operand s) ∧
    (∀ f ∈ formsDEC b w, exec f.instr s = modify decCore f.operand s) := by
  and_intros
  all_goals
    repeat refine List.forall_mem_cons.mpr ⟨rfl, ?_⟩
    exact List.forall_mem_nil _

/-- Settles O43: every form is `modify` of a byte function whose status is `set_zn` of the byte one more or one less. -/
theorem memoryIncrementResults : Obligations.MemoryIncrementResults := by
  unfold Obligations.MemoryIncrementResults
  intro s b w
  obtain ⟨hinc, hdec⟩ := exec_of_mem_formsIncrements b w s
  have hfits : ∀ f ∈ allForms b w, FormFits f := fits_of_mem_allForms b w
  refine ⟨fun f hf => modifies_of_exec_eq_modify_znOut (hfits f ?_) (hinc f hf) (incCore_eq_znOut _ _),
    fun f hf => modifies_of_exec_eq_modify_znOut (hfits f ?_) (hdec f hf) (decCore_eq_znOut _ _)⟩
  all_goals
    unfold allForms
    simp only [List.mem_append, hf, true_or, or_true]

/-! ### One-byte instructions that give a register a byte (R140 to R149) -/

/-- An instruction that puts the byte `r` into a register and follows it with `set_zn`, and has no operand bytes,
results in `r`. -/
theorem results_of_exec_eq_finish {i : Instr} {opcode : Byte} {s : State} {r : Byte} {put : State → Byte → State}
    (hencode : encode i = [opcode]) (hexec : exec i s = finish 0#16 { put s r with p := setZN s.p r })
    (hreads : SameReads s (put s r)) : Results i opcode s r put := by
  refine ⟨hencode, _, hexec, setZeroAndNegative s.p r, ?_, hreads⟩
  rw [BitVec.add_zero]

/-- Settles O41: each transfer but TXS ends with `set_zn` of the source byte; TXS writes `SP` alone. -/
theorem transferResults : Obligations.TransferResults := by
  unfold Obligations.TransferResults
  intro s
  refine ⟨?tax, ?tay, ?txa, ?tya, ?tsx, ?txs⟩
  case txs =>
    have hexec : exec .txs s = finish 0#16 { s with sp := s.x } := rfl
    exact ⟨rfl, by rw [hexec, finish_eq, BitVec.add_zero]⟩
  all_goals exact results_of_exec_eq_finish rfl rfl fun _ => rfl

/-- Settles O42: each of the four ends with `set_zn` of the register's byte one more or one less. -/
theorem registerIncrementResults : Obligations.RegisterIncrementResults := by
  unfold Obligations.RegisterIncrementResults
  intro s
  simp only [← byte_add_one_eq_ofNat, ← byte_sub_one_eq_ofNat]
  refine ⟨?inx, ?iny, ?dex, ?dey⟩
  all_goals exact results_of_exec_eq_finish rfl rfl fun _ => rfl

end Sys2Proof.Machine
end

section
/-! PROOFS. Subtraction, logic, compare and bit test (spec/43_arith_logic.md): the forms of each as its shared
operation, and the flags of SBC, the comparisons and BIT as numbers. -/

namespace Sys2Proof.Machine

open Claims

/-! ### SBC (R161) -/

theorem zeroNegative_sbcCore (a m p : Byte) : ZeroNegative [0, 6] p (sbcCore a m p).status (sbcCore a m p).value :=
  zeroNegative_adcCore a (m ^^^ 0xFF#8) p

/-- SBC leaves the carry set when the difference with borrow is not negative (R161). -/
theorem flag_bitC_sbcCore (a m p : Byte) :
    flag (sbcCore a m p).status bitC = decide (0 ≤ (a.toNat : Int) - m.toNat - (1 - (flag p bitC).toNat)) := by
  have hcarry : flag (sbcCore a m p).status bitC = decide (m.toNat + (1 - (flag p bitC).toNat) ≤ a.toNat) :=
    flag_sbcCore a m p bitC
  have hle : (flag p bitC).toNat ≤ 1 := Bool.toNat_le _
  rw [hcarry, decide_eq_decide]
  omega

theorem exec_of_mem_formsSBC {b : Byte} {w : Word} (s : State) :
    ∀ f ∈ formsSBC b w, exec f.instr s = accumulate sbcCore f.operand s := by
  repeat refine List.forall_mem_cons.mpr ⟨rfl, ?_⟩
  exact List.forall_mem_nil _

/-- Settles O45: every form is `accumulate sbcCore`, whose byte is the difference with borrow and whose flags
`flag_sbcCore` gives. -/
theorem subtractWithBorrowResult : Obligations.SubtractWithBorrowResult := by
  unfold Obligations.SubtractWithBorrowResult
  intro s b w f hf
  have hfits : FormFits f := by
    apply fits_of_mem_allForms b w
    unfold allForms
    simp only [List.mem_append, hf, true_or, or_true]
  refine ⟨hfits.encoded, _, exec_of_mem_formsSBC s f hf, ?_⟩
  rw [← toNat_flag_bitC]
  refine ⟨toNat_sbcCore_value _ _ s.p, flag_bitC_sbcCore _ _ s.p, flag_sbcCore _ _ s.p 6,
    zeroNegative_sbcCore _ _ s.p, ?_, fun _ => rfl⟩
  rw [← hfits.pc_add_length]

/-! ### AND, ORA and EOR (R162 to R164) -/

theorem exec_of_mem_formsLogic (b : Byte) (w : Word) (s : State) :
    (∀ f ∈ formsAND b w, exec f.instr s = accumulate andCore f.operand s) ∧
    (∀ f ∈ formsORA b w, exec f.instr s = accumulate oraCore f.operand s) ∧
    (∀ f ∈ formsEOR b w, exec f.instr s = accumulate eorCore f.operand s) := by
  and_intros
  all_goals
    repeat refine List.forall_mem_cons.mpr ⟨rfl, ?_⟩
    exact List.forall_mem_nil _

/-- Settles O46: every form is `accumulate` of a byte function that ends with `set_zn`. -/
theorem logicResults : Obligations.LogicResults := by
  unfold Obligations.LogicResults
  intro s b w
  obtain ⟨hand, hora, heor⟩ := exec_of_mem_formsLogic b w s
  have hfits : ∀ f ∈ allForms b w, FormFits f := fits_of_mem_allForms b w
  refine ⟨fun f hf => gives_of_exec_eq_finish (hfits f ?_) (hand f hf) rfl fun _ => rfl,
    fun f hf => gives_of_exec_eq_finish (hfits f ?_) (hora f hf) rfl fun _ => rfl,
    fun f hf => gives_of_exec_eq_finish (hfits f ?_) (heor f hf) rfl fun _ => rfl⟩
  all_goals
    unfold allForms
    simp only [List.mem_append, hf, true_or, or_true]

/-! ### CMP, CPX and CPY (R119, R165 to R167) -/

/-- A comparison finds its operands equal when their difference is zero (R119). -/
theorem flag_bitZ_compareStatus (reg m p : Byte) : flag (compareStatus reg m p) bitZ = decide (reg = m) :=
  calc
    flag (compareStatus reg m p) bitZ = (reg - m == 0#8) := flag_compareStatus reg m p bitZ
    _ = decide (reg - m = 0#8) := beq_eq_decide _ _
    _ = decide (reg = m) := decide_eq_decide.mpr sub_eq_zero

/-- A comparison's negative flag is the sign bit of the difference modulo 256 (R119). -/
theorem flag_bitN_compareStatus (reg m p : Byte) :
    flag (compareStatus reg m p) bitN = decide (128 ≤ (256 + reg.toNat - m.toNat) % 256) := by
  have hsign : flag (compareStatus reg m p) bitN = (reg - m).msb :=
    (flag_compareStatus reg m p bitN).trans (BitVec.msb_eq_getLsbD_last _).symm
  rw [hsign, BitVec.msb_eq_decide, BitVec.toNat_sub, decide_eq_decide]
  have := m.isLt
  omega

/-- A form that compares a register with its operand writes the three flags of `compare` and no register. -/
theorem compares_of_exec_eq_compareWith {f : Form} {s : State} {reg : Byte} (hfits : FormFits f)
    (hexec : exec f.instr s = compareWith reg f.operand s) : Compares f s reg := by
  refine ⟨hfits.encoded, _, hexec, flag_compareStatus reg _ s.p bitC, flag_bitZ_compareStatus reg _ s.p,
    flag_bitN_compareStatus reg _ s.p, onlyBits_compareStatus reg _ s.p, ?_, fun _ => rfl⟩
  rw [← hfits.pc_add_length]

theorem exec_of_mem_formsCompares (b : Byte) (w : Word) (s : State) :
    (∀ f ∈ formsCMP b w, exec f.instr s = compareWith s.a f.operand s) ∧
    (∀ f ∈ formsCPX b w, exec f.instr s = compareWith s.x f.operand s) ∧
    (∀ f ∈ formsCPY b w, exec f.instr s = compareWith s.y f.operand s) := by
  and_intros
  all_goals
    repeat refine List.forall_mem_cons.mpr ⟨rfl, ?_⟩
    exact List.forall_mem_nil _

/-- Settles O47: every form is `compareWith` of its register. -/
theorem compareResults : Obligations.CompareResults := by
  unfold Obligations.CompareResults
  intro s b w
  obtain ⟨hcmp, hcpx, hcpy⟩ := exec_of_mem_formsCompares b w s
  have hfits : ∀ f ∈ allForms b w, FormFits f := fits_of_mem_allForms b w
  refine ⟨fun f hf => compares_of_exec_eq_compareWith (hfits f ?_) (hcmp f hf),
    fun f hf => compares_of_exec_eq_compareWith (hfits f ?_) (hcpx f hf),
    fun f hf => compares_of_exec_eq_compareWith (hfits f ?_) (hcpy f hf)⟩
  all_goals
    unfold allForms
    simp only [List.mem_append, hf, true_or, or_true]

/-! ### BIT (R168) -/

theorem exec_of_mem_formsBIT {b : Byte} {w : Word} (s : State) :
    ∀ f ∈ formsBIT b w, exec f.instr s = testBits f.operand s := by
  repeat refine List.forall_mem_cons.mpr ⟨rfl, ?_⟩
  exact List.forall_mem_nil _

/-- Settles O48: both forms are `testBits`, whose flags `flag_bitStatus` gives. -/
theorem bitTestResult : Obligations.BitTestResult := by
  unfold Obligations.BitTestResult
  intro s b w f hf
  have hfits : FormFits f := by
    apply fits_of_mem_allForms b w
    unfold allForms
    simp only [List.mem_append, hf, true_or, or_true]
  refine ⟨hfits.encoded, _, exec_of_mem_formsBIT s f hf, flag_bitStatus _ _ s.p bitZ, flag_bitStatus _ _ s.p bitN,
    flag_bitStatus _ _ s.p bitV, onlyBits_bitStatus _ _ s.p, ?_, fun _ => rfl⟩
  rw [← hfits.pc_add_length]

end Sys2Proof.Machine
end

section
/-! PROOFS. Shifts and rotates (spec/44_shift_rotate.md): the common end of the four byte functions, the accumulator
form and the memory forms of one of them, and the four themselves. -/

namespace Sys2Proof.Machine

open Claims

theorem zeroNegative_shiftOut (p r : Byte) (c : Bool) : ZeroNegative [0] p (shiftOut p r c).status r :=
  ⟨flag_shiftOut p r c 1, flag_shiftOut p r c 7, onlyBits_mono (by decide) (onlyBits_shiftOut p r c)⟩

/-! ### One shift in all its forms -/

/-- The byte function `core` of a shift, at status `p` with carry in `cin`: the byte is `res`, the carry out is `out`,
and the status is that of the common end of spec/44. -/
structure ShiftsTo (core : Byte → Byte → AluOut) (p : Byte) (cin : Nat) (res : Byte → Nat → Nat)
    (out : Byte → Bool) : Prop where
  toNat_value : ∀ v, (core v p).value.toNat = res v cin
  eq_shiftOut : ∀ v, core v p = shiftOut p (core v p).value (out v)

section
variable {core : Byte → Byte → AluOut} {p : Byte} {cin : Nat} {res : Byte → Nat → Nat} {out : Byte → Bool}

theorem ShiftsTo.value_eq_ofNat (hcore : ShiftsTo core p cin res out) (v : Byte) :
    (core v p).value = BitVec.ofNat 8 (res v cin) := by
  rw [← hcore.toNat_value, BitVec.ofNat_toNat, BitVec.setWidth_eq]

theorem ShiftsTo.carry_out (hcore : ShiftsTo core p cin res out) (v : Byte) :
    (core v p).status.getLsbD 0 = out v := by
  rw [hcore.eq_shiftOut]
  exact flag_shiftOut p _ (out v) 0

theorem ShiftsTo.zeroNegative (hcore : ShiftsTo core p cin res out) (v : Byte) :
    ZeroNegative [0] p (core v p).status (core v p).value := by
  have hzn := zeroNegative_shiftOut p (core v p).value (out v)
  rwa [← hcore.eq_shiftOut] at hzn

end

/-- A shift is its accumulator form, which puts the byte into `A`, and its memory forms, which write it back. -/
theorem shifts_of_exec_eq {acc : Instr} {opcode : Byte} {forms : List Form} {s : State} {core : Byte → Byte → AluOut}
    {res : Byte → Nat → Nat} {out : Byte → Bool} (hcore : ShiftsTo core s.p (carry s) res out)
    (hencode : encode acc = [opcode]) (hacc : exec acc s = shiftA core s) (hfits : ∀ f ∈ forms, FormFits f)
    (hforms : ∀ f ∈ forms, exec f.instr s = modify core f.operand s) : Shifts acc opcode forms s res out := by
  refine ⟨⟨hencode, _, hacc, hcore.toNat_value s.a, hcore.carry_out s.a, hcore.zeroNegative s.a, ?_, fun _ => rfl⟩,
    fun f hf => ?_⟩
  · rw [BitVec.add_zero]
  · rw [← hcore.value_eq_ofNat]
    exact modifies_of_exec_eq_modify (hfits f hf) (hforms f hf) rfl (hcore.carry_out _) (hcore.zeroNegative _)

/-! ### The four shifts (R180 to R183) -/

theorem shiftsTo_aslCore (s : State) :
    ShiftsTo aslCore s.p (carry s) (fun v _ => 2 * v.toNat % 256) fun v => v.getLsbD 7 :=
  ⟨fun v => toNat_aslCore_value v s.p, fun _ => rfl⟩

theorem shiftsTo_lsrCore (s : State) : ShiftsTo lsrCore s.p (carry s) (fun v _ => v.toNat / 2) fun v => v.getLsbD 0 :=
  ⟨fun v => toNat_lsrCore_value v s.p, fun _ => rfl⟩

theorem shiftsTo_rolCore (s : State) :
    ShiftsTo rolCore s.p (carry s) (fun v c => (2 * v.toNat + c) % 256) fun v => v.getLsbD 7 := by
  rw [← toNat_flag_bitC]
  exact ⟨fun v => toNat_rolCore_value v s.p, fun _ => rfl⟩

theorem shiftsTo_rorCore (s : State) :
    ShiftsTo rorCore s.p (carry s) (fun v c => v.toNat / 2 + 128 * c) fun v => v.getLsbD 0 := by
  rw [← toNat_flag_bitC]
  exact ⟨fun v => toNat_rorCore_value v s.p, fun _ => rfl⟩

theorem exec_of_mem_formsShifts (b : Byte) (w : Word) (s : State) :
    (∀ f ∈ formsASL b w, exec f.instr s = modify aslCore f.operand s) ∧
    (∀ f ∈ formsLSR b w, exec f.instr s = modify lsrCore f.operand s) ∧
    (∀ f ∈ formsROL b w, exec f.instr s = modify rolCore f.operand s) ∧
    (∀ f ∈ formsROR b w, exec f.instr s = modify rorCore f.operand s) := by
  and_intros
  all_goals
    repeat refine List.forall_mem_cons.mpr ⟨rfl, ?_⟩
    exact List.forall_mem_nil _

/-- Settles O49: the accumulator form of each is `shiftA`, the memory forms are `modify`, of one byte function. -/
theorem shiftResults : Obligations.ShiftResults := by
  unfold Obligations.ShiftResults
  intro s b w
  obtain ⟨hasl, hlsr, hrol, hror⟩ := exec_of_mem_formsShifts b w s
  have hfits : ∀ f ∈ allForms b w, FormFits f := fits_of_mem_allForms b w
  refine ⟨shifts_of_exec_eq (shiftsTo_aslCore s) rfl rfl (fun f hf => hfits f ?_) hasl,
    shifts_of_exec_eq (shiftsTo_lsrCore s) rfl rfl (fun f hf => hfits f ?_) hlsr,
    shifts_of_exec_eq (shiftsTo_rolCore s) rfl rfl (fun f hf => hfits f ?_) hrol,
    shifts_of_exec_eq (shiftsTo_rorCore s) rfl rfl (fun f hf => hfits f ?_) hror⟩
  all_goals
    unfold allForms
    simp only [List.mem_append, hf, true_or, or_true]

end Sys2Proof.Machine
end

section
/-! PROOFS. Control transfer (spec/45_control_transfer.md): the branches as one shared operation, the jumps, and the
subroutine call and the returns by the bytes they push and pull. -/

namespace Sys2Proof.Machine

open Claims

/-! ### The conditional branches (R190 to R198) -/

/-- The target of a branch is the address after it plus the signed offset, modulo 65536 (R190, D12). -/
theorem toNat_add_one_add_sext16 (pc : Word) (rel8 : Byte) :
    ((pc + 1#16 + sext16 rel8).toNat : Int) = (pc.toNat + 1 + rel8.toInt) % 65536 := by
  have hoffset : ((sext16 rel8).toNat : Int) = rel8.toInt % 65536 := by
    rw [sext16, BitVec.signExtend, BitVec.toNat_ofInt]
    omega
  simp only [BitVec.toNat_add, BitVec.toNat_ofNat]
  omega

theorem branch_eq (taken : Bool) (rel8 : Byte) (s : State) :
    branch taken rel8 s = .next { s with pc := if taken then s.pc + 1#16 + sext16 rel8 else s.pc + 1#16 } := by
  cases taken <;> rfl

theorem branches_of_exec_eq_branch {i : Instr} {opcode rel8 : Byte} {s : State} {taken : Bool}
    (hencode : encode i = [opcode, rel8]) (hexec : exec i s = branch taken rel8 s) :
    Branches i opcode rel8 s taken := by
  refine ⟨hencode, _, hexec.trans (branch_eq taken rel8 s), ?_, rfl, fun _ => rfl⟩
  cases taken with
  | true => exact toNat_add_one_add_sext16 s.pc rel8
  | false => exact congrArg Nat.cast (BitVec.toNat_add s.pc 1#16)

/-- Settles O50: each of the eight is `branch` on its flag or on the flag's complement. -/
theorem branchResults : Obligations.BranchResults := by
  unfold Obligations.BranchResults
  intro s rel8
  simp only [beq_true, beq_false]
  refine ⟨?bcc, ?bcs, ?beq, ?bmi, ?bne, ?bpl, ?bvc, ?bvs⟩
  all_goals exact branches_of_exec_eq_branch rfl rfl

/-! ### The jumps (R199, R200) -/

theorem toNat_and_ff00 (w : Word) : (w &&& 0xFF00#16).toNat = (w.toNat / 256) <<< 8 := by
  have hshift : w &&& 0xFF00#16 = w >>> 8 <<< 8 := by
    ext k hk
    interval_cases k <;> simp
  have := w.isLt
  rw [hshift, BitVec.toNat_shiftLeft, BitVec.toNat_ushiftRight, Nat.shiftLeft_eq, Nat.shiftRight_eq_div_pow]
  omega

/-- A page and a place in it make an address by their sum. -/
theorem toNat_page_or_place (v w : Word) :
    ((v &&& 0xFF00#16) ||| (w &&& 0x00FF#16)).toNat = v.toNat / 256 * 256 + w.toNat % 256 := by
  have hplace : (w &&& 0x00FF#16).toNat = w.toNat % 256 := Nat.and_two_pow_sub_one_eq_mod w.toNat 8
  have hlt : w.toNat % 256 < 2 ^ 8 := Nat.mod_lt _ (by decide)
  rw [BitVec.toNat_or, toNat_and_ff00, hplace, ← Nat.shiftLeft_add_eq_or_of_lt hlt, Nat.shiftLeft_eq]

/-- The pointer plus one within the same page (R200, D20). -/
theorem samePageNext_eq_ofNat (w : Word) :
    samePageNext w = BitVec.ofNat 16 (w.toNat / 256 * 256 + (w.toNat % 256 + 1) % 256) := by
  have := w.isLt
  apply BitVec.eq_of_toNat_eq
  rw [samePageNext, toNat_page_or_place, BitVec.toNat_add]
  simp only [BitVec.toNat_ofNat]
  omega

/-- Settles O51: the indirect form makes its target of the bytes at the pointer and at the next place of its page. -/
theorem jumpResults : Obligations.JumpResults := by
  unfold Obligations.JumpResults
  intro s w
  refine ⟨⟨rfl, rfl⟩, rfl, _, rfl, ?_, rfl, fun _ => rfl⟩
  rw [← samePageNext_eq_ofNat]
  exact toNat_wordOf _ _

/-! ### The bytes on the stack (R16, R120, R121) -/

/-- No two stack addresses name one cell: the stack page lies inside the RAM (D3). -/
theorem sameCell_stackAddr_iff (a b : Byte) : sameCell (stackAddr a) (stackAddr b) ↔ a = b := by
  rw [sameCell_iff_busDecode_eq, busDecode_stackAddr, busDecode_stackAddr, ← BitVec.toNat_inj]
  simp [eq_comm]

theorem State.read_push (s : State) (v : Byte) (b : Word) :
    (s.push v).read b = if sameCell (stackAddr s.sp) b then v else s.read b :=
  readReturnsTheLatestWrite s (stackAddr s.sp) b v

theorem State.read_pushWord (s : State) (w b : Word) :
    (s.pushWord w).read b =
      if sameCell (stackAddr (s.sp - 1#8)) b then lowByte w
      else if sameCell (stackAddr s.sp) b then highByte w else s.read b := by
  rw [State.pushWord, State.read_push, State.read_push, State.push_sp]

@[simp] theorem State.pushWord_sp (s : State) (w : Word) : (s.pushWord w).sp = s.sp - 2#8 :=
  BitVec.sub_sub s.sp 1#8 1#8

/-- JSR's two pushes write `SP` and the RAM alone (R120). -/
theorem State.pushWord_keeps (s : State) (w : Word) :
    s.pushWord w = { s with ram := (s.pushWord w).ram, sp := s.sp - 2#8 } := by
  rw [← s.pushWord_sp w, State.pushWord_eq]

/-- The pulls that follow a pull read the bytes above the first one (R121). -/
theorem pulledAt_afterPull (s : State) (k : Nat) : pulledAt s.afterPull k = pulledAt s (1 + k) := by
  have hsp : s.sp + 1#8 + BitVec.ofNat 8 k = s.sp + BitVec.ofNat 8 (1 + k) := by
    rw [BitVec.ofNat_add, BitVec.add_assoc]
  exact congrArg (fun sp => s.read (stackAddr sp)) hsp

theorem State.pulledWord_eq (s : State) : s.pulledWord = wordOf (pulledAt s 1) (pulledAt s 2) :=
  congrArg (wordOf (pulledAt s 1)) (pulledAt_afterPull s 1)

theorem State.afterPullWord_eq (s : State) : s.afterPullWord = { s with sp := s.sp + 2#8 } :=
  congrArg (fun sp => { s with sp := sp }) (BitVec.add_assoc s.sp 1#8 1#8)

/-- Two pulls give back the word that two pushes left (R120, R121). -/
theorem State.pulledWord_pushWord (s : State) (w : Word) : (s.pushWord w).pulledWord = w := by
  have hlow : pulledAt (s.pushWord w) 1 = lowByte w := by
    have hsp : s.sp - 2#8 + 1#8 = s.sp - 1#8 := by bv_omega
    rw [pulledAt, s.pushWord_sp, hsp, s.read_pushWord, if_pos ((sameCell_stackAddr_iff _ _).mpr rfl)]
  have hhigh : pulledAt (s.pushWord w) 2 = highByte w := by
    have hsp : s.sp - 2#8 + 2#8 = s.sp := BitVec.sub_add_cancel _ _
    have hne : s.sp - 1#8 ≠ s.sp := by bv_omega
    rw [pulledAt, s.pushWord_sp, hsp, s.read_pushWord, if_neg (mt (sameCell_stackAddr_iff _ _).mp hne),
      if_pos ((sameCell_stackAddr_iff _ _).mpr rfl)]
  rw [State.pulledWord_eq, hlow, hhigh, wordOf_lowByte_highByte]

/-! ### The subroutine call and the returns (R201 to R203) -/

/-- Settles O52: the two pushes write the halves of `PC + 1`, the address of the last byte of the JSR. -/
theorem subroutineCallResult : Obligations.SubroutineCallResult := by
  unfold Obligations.SubroutineCallResult
  intro s w
  have hpush := s.pushWord_keeps (s.pc + 1#16)
  have hexec : exec (.jsrAbs w) s =
      .next { s with ram := (s.pushWord (s.pc + 1#16)).ram, sp := s.sp - 2#8, pc := w } :=
    congrArg (transferTo w) hpush
  refine ⟨rfl, _, hexec, rfl, rfl, rfl, rfl, rfl, rfl, rfl, ⟨rfl, rfl, rfl, rfl, rfl, rfl⟩, fun b => ?_⟩
  have hret : (s.pc + 1#16).toNat = (s.pc.toNat + 1) % 65536 := BitVec.toNat_add _ _
  have hread := s.read_pushWord (s.pc + 1#16) b
  rwa [hpush, lowByte_eq_ofNat, highByte_eq_ofNat, hret] at hread

/-- All that RTS does (R202). -/
theorem exec_rts (s : State) :
    exec .rts s = .next { s with sp := s.sp + 2#8, pc := wordOf (pulledAt s 1) (pulledAt s 2) + 1#16 } := by
  rw [← s.pulledWord_eq]
  exact congrArg (transferTo (s.pulledWord + 1#16)) s.afterPullWord_eq

/-- All that RTI does (R203). -/
theorem exec_rti (s : State) :
    exec .rti s =
      .next { s with
        sp := s.sp + 3#8
        p := pulledStatus (pulledAt s 1) s.p
        pc := wordOf (pulledAt s 2) (pulledAt s 3) } := by
  have hword : s.afterPull.pulledWord = wordOf (pulledAt s 2) (pulledAt s 3) := by
    rw [State.pulledWord_eq, pulledAt_afterPull, pulledAt_afterPull]
  have hsp : s.afterPull.afterPullWord.sp = s.sp + 3#8 := by
    rw [State.afterPullWord_eq, State.afterPull_sp, BitVec.add_assoc]
    rfl
  rw [← hword, ← hsp]
  rfl

/-- Settles O53: the words pulled as numbers, and the status pulled bit by bit. -/
theorem returnResults : Obligations.ReturnResults := by
  unfold Obligations.ReturnResults
  intro s
  refine ⟨⟨rfl, _, exec_rts s, ?_, rfl, fun _ => rfl⟩,
    rfl, _, exec_rti s, toNat_wordOf _ _, flag_pulledStatus (pulledAt s 1) s.p, rfl, fun _ => rfl⟩
  rw [BitVec.toNat_add, toNat_wordOf]
  rfl

/-- Settles O54: RTS pulls the word that the JSR pushed, `PC + 1`, and adds one. -/
theorem subroutineReturnsAfterTheCall : Obligations.SubroutineReturnsAfterTheCall := by
  unfold Obligations.SubroutineReturnsAfterTheCall
  intro s t u w hcall hsp hlow hhigh
  cases hcall
  have hpulled : wordOf (pulledAt u 1) (pulledAt u 2) = s.pc + 1#16 := by
    rw [hlow, hhigh]
    exact (State.pulledWord_eq _).symm.trans (s.pulledWord_pushWord _)
  refine ⟨_, exec_rts u, ?_, ?_⟩
  · rw [hpulled, BitVec.add_assoc]
    rfl
  · simp [hsp]

end Sys2Proof.Machine
end

section
/-! PROOFS. The stack instructions, NOP and BRK (spec/46_stack_flags_system.md): what each leaves as one equation, and
the byte that a push leaves for the next pull. -/

namespace Sys2Proof.Machine

open Claims

/-- Part (4) of the step of an instruction with no operand byte adds nothing to `PC` (R101). -/
theorem finish_zero (s : State) : finish 0#16 s = .next s := by
  rw [finish_eq, BitVec.add_zero]

/-! ### The pushes (R210, R211) -/

/-- A push writes `SP` and the RAM alone (R120). -/
theorem State.push_keeps (s : State) (v : Byte) : s.push v = { s with sp := s.sp - 1#8, ram := (s.push v).ram } := by
  rw [State.push_eq]

/-- All that PHA does (R210). -/
theorem exec_pha (s : State) : exec .pha s = .next (s.push s.a) := finish_zero _

/-- All that PHP does (R211). -/
theorem exec_php (s : State) : exec .php s = .next (s.push (pushedStatus s.p)) := finish_zero _

/-- Settles O55: both are `push`, of `A` and of `P` with bits 4 and 5 set. -/
theorem pushResults : Obligations.PushResults := by
  unfold Obligations.PushResults
  intro s
  refine ⟨toNat_stackAddr s.sp, ⟨rfl, _, exec_pha s, s.push_keeps s.a, s.read_push s.a⟩, rfl, _, pushedStatus s.p,
    exec_php s, fun k _ => ?_, s.push_keeps _, s.read_push _⟩
  exact flag_pushedStatus s.p k

/-! ### The pulls (R212, R213) -/

/-- All that PLP does (R213). -/
theorem exec_plp (s : State) :
    exec .plp s = .next { s with sp := s.sp + 1#8, p := pulledStatus (pulledAt s 1) s.p } :=
  finish_zero _

/-- Settles O56: PLA ends with `set_zn` of the byte pulled, and PLP loads it through `pulledStatus`. -/
theorem pullResults : Obligations.PullResults := by
  unfold Obligations.PullResults
  intro s
  refine ⟨?pla, rfl, _, exec_plp s, ?plpStatus, rfl, fun _ => rfl⟩
  case pla => exact results_of_exec_eq_finish rfl rfl fun _ => rfl
  case plpStatus => exact flag_pulledStatus (pulledAt s 1) s.p

/-! ### A push and the pull after it (R213) -/

/-- A pull gives back the byte that a push left (R120, R121). -/
theorem pulledAt_push (s : State) (v : Byte) : pulledAt (s.push v) 1 = v := by
  have hsp : s.sp - 1#8 + 1#8 = s.sp := BitVec.sub_add_cancel _ _
  rw [pulledAt, State.push_sp, hsp, State.read_push, if_pos ((sameCell_stackAddr_iff _ _).mpr rfl)]

/-- The two bits that PHP sets in its byte are the two that PLP leaves (D19). -/
theorem pulledStatus_pushedStatus (p : Byte) : pulledStatus (pushedStatus p) p = p := by
  refine byte_ext fun k => ?_
  rw [flag_pulledStatus, flag_pushedStatus]
  by_cases hkept : k = 4 ∨ k = 5
  · rw [if_pos hkept]
  · rw [if_neg hkept, if_neg hkept]

/-- Settles O57: PLP pulls the byte that PHP pushed, and a push keeps `P`. -/
theorem pushThenPullKeepsStatus : Obligations.PushThenPullKeepsStatus := by
  unfold Obligations.PushThenPullKeepsStatus
  intro s
  refine ⟨_, _, exec_php s, exec_plp _, ?_, BitVec.sub_add_cancel s.sp 1#8, s.push_a _⟩
  rw [pulledAt_push, State.push_p, pulledStatus_pushedStatus]

/-! ### NOP and BRK (R221, R222) -/

/-- Settles O59: NOP ends its step with no operand byte to pass, and BRK is `halt`. -/
theorem nopAndBreakResults : Obligations.NopAndBreakResults := by
  unfold Obligations.NopAndBreakResults
  intro s
  exact ⟨⟨rfl, finish_zero s⟩, rfl, rfl⟩

end Sys2Proof.Machine
end

section
/-! PROOFS. The sound states (spec/10_state.md sections 6 and 7): every step keeps the state sound, and what a sound
state reads as is all there is to its arrays. -/

namespace Sys2Proof.Machine

open Claims

/-! ### Every step -/

theorem State.wf_pastOpcode {s : State} (h : s.wf) : s.pastOpcode.wf := h

theorem State.wf_raise {s : State} (c : Fault) (h : s.wf) : (s.raise c).wf := h

theorem exec_wf {i : Instr} {s t : State} (h : exec i s = .next t) (hs : s.wf) : t.wf := by
  obtain ⟨u, hu, hbus⟩ := exec_bus i s
  obtain rfl : u = t := Host.Outcome.next.inj (hu.symm.trans h)
  exact hbus.wf hs

theorem stepIn_wf {profile : Profile} {s t : State} (h : stepIn profile s = .next t) (hs : s.wf) : t.wf := by
  obtain ⟨-, rfl⟩ | ⟨-, i, -, hexec⟩ | ⟨-, -, rfl⟩ := stepIn_next_cases h
  · exact hs
  · exact exec_wf hexec (State.wf_pastOpcode hs)
  · exact State.wf_raise _ (State.wf_pastOpcode hs)

/-- Settles O12: a step keeps the state, runs an instruction, whose writes go through the bus, or enters a fatal
condition. -/
theorem stepKeepsStateSound : Obligations.StepKeepsStateSound := by
  unfold Obligations.StepKeepsStateSound
  intro s t hs h
  exact stepIn_wf h hs

/-! ### One form for each contents (log 12) -/

/-- An array in canonical form lists nothing past its size. -/
theorem Memory.get_of_size_le {size : Nat} {m : Memory} (hm : m.wf size) {i : Nat} (hi : size ≤ i) :
    m.get i = Config.unlistedByte := by
  obtain ⟨-, hcells⟩ := hm
  induction m with
  | nil => rfl
  | cons c m ih =>
    rw [List.forall_mem_cons] at hcells
    obtain ⟨⟨hc, -⟩, hrest⟩ := hcells
    rw [Memory.get, if_neg (by omega), ih hrest]

/-- Arrays in canonical form that agree inside their size are equal. -/
theorem Memory.ext_of_get_lt {size : Nat} {m n : Memory} (hm : m.wf size) (hn : n.wf size)
    (h : ∀ i < size, m.get i = n.get i) : m = n := by
  refine Memory.ext_of_get hm hn fun i => ?_
  by_cases hi : i < size
  · exact h i hi
  · rw [Memory.get_of_size_le hm (Nat.not_lt.mp hi), Memory.get_of_size_le hn (Nat.not_lt.mp hi)]

theorem toNat_ofNat_word {n : Nat} (h : n < 65536) : (BitVec.ofNat 16 n).toNat = n :=
  (BitVec.toNat_ofNat n 16).trans (Nat.mod_eq_of_lt h)

section
variable {i : Nat}

theorem State.read_ofNat_ram (hi : i < 2048) (s : State) : s.read (BitVec.ofNat 16 i) = s.ram.get i := by
  have ha : (BitVec.ofNat 16 i).toNat = i := toNat_ofNat_word (by omega)
  rw [State.read_ram (by omega), ha, Nat.mod_eq_of_lt hi]

theorem State.read_ofNat_ppu (hi : i < 8) (s : State) : s.read (BitVec.ofNat 16 (0x2000 + i)) = s.ppuReg.get i := by
  have ha : (BitVec.ofNat 16 (0x2000 + i)).toNat = 0x2000 + i := toNat_ofNat_word (by omega)
  rw [State.read_ppu (by omega) (by omega), ha]
  congr 1
  omega

theorem State.read_ofNat_rom (hi : i < 32768) (s : State) : s.read (BitVec.ofNat 16 (0x8000 + i)) = s.rom.get i := by
  have ha : (BitVec.ofNat 16 (0x8000 + i)).toNat = 0x8000 + i := toNat_ofNat_word (by omega)
  rw [State.read_rom (by omega), ha, Nat.add_sub_cancel_left]

end

/-- Sound states that read alike have the same arrays: every cell of an array has an address. -/
theorem State.arrays_eq_of_sameReads {s t : State} (hs : s.wf) (ht : t.wf) (h : SameReads s t) :
    t.ram = s.ram ∧ t.ppuReg = s.ppuReg ∧ t.rom = s.rom := by
  obtain ⟨hsram, hsppu, hsrom, -⟩ := hs
  obtain ⟨htram, htppu, htrom, -⟩ := ht
  refine ⟨Memory.ext_of_get_lt htram hsram fun i hi => ?_, Memory.ext_of_get_lt htppu hsppu fun i hi => ?_,
    Memory.ext_of_get_lt htrom hsrom fun i hi => ?_⟩
  · rw [← State.read_ofNat_ram hi, ← State.read_ofNat_ram hi, h]
  · rw [← State.read_ofNat_ppu hi, ← State.read_ofNat_ppu hi, h]
  · rw [← State.read_ofNat_rom hi, ← State.read_ofNat_rom hi, h]

/-- Settles O31: the arrays are equal, and the other fields are so by hypothesis. -/
theorem soundStatesThatReadAlikeAreEqual : Obligations.SoundStatesThatReadAlikeAreEqual := by
  unfold Obligations.SoundStatesThatReadAlikeAreEqual
  intro s t hs ht hreads hfields
  obtain ⟨hram, hppu, hrom⟩ := State.arrays_eq_of_sameReads hs ht hreads
  rw [hfields, hram, hppu, hrom]

end Sys2Proof.Machine
end

section
/-! PROOFS. The bytes without a routine (spec/30_encoding.md section 4): the decoder rejects a byte by name exactly when
the opcode map has no cell for it, and the map's empty cells are the spec's list. -/

namespace Sys2Proof

open Claims

theorem decode_eq_unassigned_iff {profile : Profile} {opcode : Byte} {operand : List Byte} :
    decode profile (opcode :: operand) = .error (.unassignedOpcode opcode) ↔ dispatch profile opcode = none := by
  cases hd : dispatch profile opcode with
  | none => simp [decode, hd]
  | some shape =>
    cases shape with
    | implied i => simp [decode, hd]
    | byte f => rcases operand with _ | ⟨b, rest⟩ <;> simp [decode, hd]
    | word f => rcases operand with _ | ⟨lo, _ | ⟨hi, rest⟩⟩ <;> simp [decode, hd]

/-- The empty cells of the grid of R86 are the 105 bytes of R87. -/
theorem dispatch_full_eq_none_iff (opcode : Byte) : dispatch .full opcode = none ↔ opcode ∈ unassignedFull := by
  rw [← Option.isNone_iff_eq_none]
  revert opcode
  decide

/-- Each of the 18 bytes of R85 has a cell in the grid. -/
theorem dispatch_minimum_eq_none_iff (opcode : Byte) :
    dispatch .minimum opcode = none ↔ opcode ∉ minimumOpcodes := by
  rw [← Option.isNone_iff_eq_none]
  revert opcode
  decide

/-- Settles O3: a byte is rejected when the map of the profile has no cell for it. -/
theorem unassignedBytesAreRejected : Obligations.UnassignedBytesAreRejected := by
  unfold Obligations.UnassignedBytesAreRejected
  intro opcode operand
  refine ⟨decode_eq_unassigned_iff.trans (dispatch_full_eq_none_iff opcode), ?_⟩
  rw [decode_eq_unassigned_iff, dispatch_minimum_eq_none_iff]
  exact not_congr (List.Perm.mem_iff (by decide))

/-- Settles O4: the decoder is evaluated on each of the ten words. -/
theorem writtenWordsDecode : Obligations.WrittenWordsDecode := by
  unfold Obligations.WrittenWordsDecode
  decide

end Sys2Proof
end

section
/-! PROOFS. Fatal conditions, halt and the observer (spec/60_exceptions.md): what a RUNNING step answers by what it
fetched, and the runs of a machine that is FAULTED, HALTED or observed. -/

namespace Sys2Proof.Machine

open Claims

/-! ### The entry into a fatal condition (R231, R236) -/

/-- The step fetches nothing where the bytes at `PC` decode to nothing. -/
theorem State.fetch_of_decode_error {profile : Profile} {s : State} {e : DecodeError}
    (h : decode profile (bytesAt s) = .error e) : s.fetch profile = none := by
  rw [State.fetch_eq_decode, show s.bytesAtPc = bytesAt s from rfl, h]

/-- Settles O8: the fetch finds no instruction, and the step raises the condition past the opcode byte. -/
theorem unassignedOpcodeIsFatal : Obligations.UnassignedOpcodeIsFatal := by
  unfold Obligations.UnassignedOpcodeIsFatal
  intro profile s hrun hdecode
  exact (stepIn_running hrun).trans (State.runningStep_unassigned (State.fetch_of_decode_error hdecode))

/-! ### What a RUNNING step answers (R48, R230, R238) -/

theorem State.decode_of_fetch {profile : Profile} {s : State} {i : Instr} (h : s.fetch profile = some i) :
    ∃ rest, decode profile (bytesAt s) = .ok (i, rest) := by
  cases hd : decode profile (bytesAt s) with
  | error e => simp [State.fetch_of_decode_error hd] at h
  | ok r =>
    obtain ⟨j, rest⟩ := r
    obtain rfl : j = i := Option.some.inj ((State.fetch_of_decode hd).symm.trans h)
    exact ⟨rest, rfl⟩

/-- The fetched instruction is the one of the byte at `PC`. -/
theorem State.opcode_of_fetch {profile : Profile} {s : State} {i : Instr} (h : s.fetch profile = some i) :
    i.opcode = s.read s.pc := by
  obtain ⟨rest, hdecode⟩ := State.decode_of_fetch h
  simpa using congrArg List.head? (encode_append_of_decode hdecode)

/-- The byte 0x00 is BRK in both profiles (R85, R86). -/
theorem State.fetch_of_read_zero (profile : Profile) {s : State} (h : s.read s.pc = 0x00#8) :
    s.fetch profile = some .brk := by
  have hd : dispatch profile (s.read s.pc) = some (.implied .brk) := by
    rw [h]
    cases profile <;> rfl
  rw [State.fetch, hd]

theorem State.fetch_eq_brk_iff {profile : Profile} {s : State} :
    s.fetch profile = some .brk ↔ s.read s.pc = 0x00#8 :=
  ⟨fun h => (State.opcode_of_fetch h).symm, State.fetch_of_read_zero profile⟩

/-- No instruction but BRK writes `run_state`: those that leave the line write `PC`, and some of them the stack. -/
theorem exec_runState {i : Instr} {s t : State} (hi : i ≠ .brk) (h : exec i s = .next t) :
    t.runState = s.runState := by
  cases hline : i.leavesLine with
  | false =>
    obtain ⟨u, hu, -, hrun⟩ := exec_eq_finish hline s
    cases hu.symm.trans h
    exact hrun
  | true =>
    cases i
    case brk => contradiction
    case bccRel | bcsRel | beqRel | bmiRel | bneRel | bplRel | bvcRel | bvsRel =>
      cases (branch_eq _ _ s).symm.trans h
      rfl
    case jmpAbs | jmpInd | rts | rti =>
      cases h
      rfl
    case jsrAbs =>
      cases h
      exact ((s.push _).push_runState _).trans (s.push_runState _)
    all_goals cases hline

/-- Settles O11: the step halts on BRK, enters its fatal condition where it fetches nothing, and otherwise leaves the
machine RUNNING. -/
theorem runningStepOutcome : Obligations.RunningStepOutcome := by
  unfold Obligations.RunningStepOutcome
  intro profile s hrun
  obtain ⟨t, ht⟩ := exists_runningStep_next profile s
  refine ⟨t, (stepIn_running hrun).trans ht, ?_⟩
  rw [← State.fetch_eq_brk_iff (profile := profile)]
  cases hf : s.fetch profile with
  | none =>
    cases (State.runningStep_unassigned hf).symm.trans ht
    simp
  | some i =>
    have hexec : exec i s.pastOpcode = .next t := (State.runningStep_fetched hf).symm.trans ht
    by_cases hi : i = .brk
    · subst hi
      cases hexec
      simp
    · have hkeep : t.runState = .running := (exec_runState hi hexec).trans hrun
      simp [hkeep, hi]

/-! ### FAULTED and HALTED (R237, R248, R264) -/

theorem State.startRun_of_faulted {s : State} {c : Fault} (h : s.runState = .faulted c) : s.startRun = s := by
  simp only [State.startRun, h]

theorem State.startRun_of_halted {s : State} (h : s.runState = .halted) :
    s.startRun = { s with runState := .running } := by
  simp only [State.startRun, h]

/-- Settles O9: run leaves FAULTED alone, so its loop does not turn, and reset keeps `run_state`. -/
theorem faultedIsTerminal : Obligations.FaultedIsTerminal := by
  unfold Obligations.FaultedIsTerminal
  intro profile s c budget h
  refine ⟨stepIn_faulted h, ?_, s.hostReset_runState.trans h⟩
  rw [State.run, State.startRun_of_faulted h, State.runLoop_of_not_running profile budget (by simp [h])]

/-- Settles O10: the loop turns in RUNNING only, and the start of a run sets `run_state` alone. -/
theorem haltedKeepsItsState : Obligations.HaltedKeepsItsState := by
  unfold Obligations.HaltedKeepsItsState
  intro profile s budget h
  exact ⟨stepIn_halted h, State.runLoop_of_not_running profile budget (by simp [h]), State.startRun_of_halted h⟩

/-! ### The observer (R247) -/

theorem State.observedLoop_succ_of_next {profile : Profile} {s t : State} (hrun : s.runState = .running)
    (hstep : s.runningStep profile = .next t) (n : Nat) :
    s.observedLoop profile (n + 1) = (s.observe :: (t.observedLoop profile n).1, (t.observedLoop profile n).2) := by
  simp only [State.observedLoop, hrun, hstep]

theorem State.observedLoop_of_not_running (profile : Profile) (n : Nat) {s : State} (h : s.runState ≠ .running) :
    s.observedLoop profile n = ([], s) := by
  cases n with
  | zero => rfl
  | succ n =>
    unfold State.observedLoop
    split
    · contradiction
    · rfl

/-- The observed loop ends where the plain loop does. -/
theorem State.observedLoop_snd (profile : Profile) (n : Nat) (s : State) :
    (s.observedLoop profile n).2 = s.runLoop profile n := by
  induction n generalizing s with
  | zero => rfl
  | succ n ih =>
    by_cases hrun : s.runState = .running
    · obtain ⟨t, ht⟩ := exists_runningStep_next profile s
      rw [State.observedLoop_succ_of_next hrun ht, State.runLoop_succ_of_next hrun ht, ih]
    · rw [State.observedLoop_of_not_running profile _ hrun, State.runLoop_of_not_running profile _ hrun]

/-- The observation at place `k` is of the state after `k` turns, while the machine is RUNNING. -/
theorem State.observedLoop_fst_getElem? {profile : Profile} {n k : Nat} {s : State} (hk : k < n)
    (hrunk : (s.runLoop profile k).runState = .running) :
    (s.observedLoop profile n).1[k]? = some (s.runLoop profile k).observe := by
  induction n generalizing s k with
  | zero => contradiction
  | succ n ih =>
    by_cases hrun : s.runState = .running
    case neg =>
      rw [State.runLoop_of_not_running profile k hrun] at hrunk
      contradiction
    obtain ⟨t, ht⟩ := exists_runningStep_next profile s
    rw [State.observedLoop_succ_of_next hrun ht]
    cases k with
    | zero => rfl
    | succ k =>
      rw [State.runLoop_succ_of_next hrun ht] at hrunk ⊢
      exact ih (Nat.lt_of_succ_lt_succ hk) hrunk

/-- Settles O34: both loops take the same steps, and the observed one lists the registers before each. -/
theorem observerDoesNotChangeTheRun : Obligations.ObserverDoesNotChangeTheRun := by
  unfold Obligations.ObserverDoesNotChangeTheRun
  intro profile n s
  exact ⟨s.observedLoop_snd profile n, fun _ hk hrunk => State.observedLoop_fst_getElem? hk hrunk⟩

end Sys2Proof.Machine
end

section
/-! PROOFS. Creation, program load and reset (spec/70_reset_and_hazards.md section 1): the ROM a load leaves and how it
reads, and the registers of a reset. -/

namespace Sys2Proof.Machine

/-! ### Program load (R261, R262) -/

/-- The ROM after a load: the image from index 0 on, and then the two bytes of the reset vector. -/
def loadedRom (m : Memory) (image : List Byte) : Memory := ((m.copyFrom 0 image).set 0x7FFC 0x00#8).set 0x7FFD 0x80#8

theorem get_loadedRom (m : Memory) (image : List Byte) (j : Nat) :
    (loadedRom m image).get j =
      if j = 0x7FFD then 0x80#8 else if j = 0x7FFC then 0x00#8
      else if j < image.length then image[j]?.getD 0 else m.get j := by
  simp [loadedRom, Memory.get_set, Memory.get_copyFrom]

/-- The vector is the word 0x8000, low byte first, at the top of ROM (R53, R70). -/
theorem State.writeWord_resetVector (s : State) :
    s.writeWord Config.resetVector Config.loadAddr =
      { s with rom := (s.rom.set 0x7FFC 0x00#8).set 0x7FFD 0x80#8 } := by
  rw [State.writeWord, State.write_rom (by decide), State.write_rom (by decide)]
  rfl

theorem State.load_of_length_le {image : List Byte} (h : image.length ≤ 32768) (s : State) :
    s.load image = .ok { s with rom := loadedRom s.rom image } := by
  have hfits : ¬ image.length > Config.romSize - (Config.loadAddr.toNat - Config.romBase) := Nat.not_lt.mpr h
  rw [State.load, if_neg hfits]
  exact congrArg Except.ok (State.writeWord_resetVector _)

theorem State.load_of_lt_length {image : List Byte} (h : 32768 < image.length) (s : State) :
    s.load image = .error (.imageTooLong image.length) := by
  have hlong : image.length > Config.romSize - (Config.loadAddr.toNat - Config.romBase) := h
  rw [State.load, if_pos hlong]

/-- The ROM is not seen below its range (R41). -/
theorem State.read_with_rom_of_lt {a : Word} (h : a.toNat < 0x8000) (s : State) (m : Memory) :
    State.read { s with rom := m } a = s.read a := by
  unfold State.read
  rcases busDecode_cases a with ⟨-, e⟩ | ⟨-, -, e⟩ | ⟨-, -, e⟩ | ⟨hrom, -⟩
  · rw [e]
  · rw [e]
  · rw [e]
  · omega

theorem State.read_with_loadedRom {a : Word} (h : 0x8000 ≤ a.toNat) (s : State) (image : List Byte) :
    State.read { s with rom := loadedRom s.rom image } a =
      if a = 0xFFFD#16 then 0x80#8 else if a = 0xFFFC#16 then 0x00#8
      else if a.toNat - 0x8000 < image.length then image[a.toNat - 0x8000]?.getD 0 else s.read a := by
  have hindex (n : Nat) (v : Word) (hv : v.toNat = 0x8000 + n) : a.toNat - 0x8000 = n ↔ a = v := by
    rw [← BitVec.toNat_inj]
    omega
  rw [State.read_rom h, State.read_rom h, get_loadedRom]
  simp only [hindex 0x7FFD 0xFFFD#16 rfl, hindex 0x7FFC 0xFFFC#16 rfl]

/-- Settles O32: the vector is written after the image, and below ROM nothing changes. -/
theorem programLoad : Obligations.ProgramLoad := by
  unfold Obligations.ProgramLoad
  intro s image
  refine ⟨fun h => s.load_of_lt_length h, fun h => ⟨_, s.load_of_length_le h, rfl, ?_, ?_, ?_, ?_⟩⟩
  · rw [State.read_with_loadedRom (by decide)]
    rfl
  · rw [State.read_with_loadedRom (by decide)]
    rfl
  · intro k v hk hlow hhigh
    obtain ⟨hlt, -⟩ := List.getElem?_eq_some_iff.mp hk
    have ha : (BitVec.ofNat 16 (0x8000 + k)).toNat = 0x8000 + k := toNat_ofNat_word (by omega)
    rw [State.read_rom (by omega), ha, get_loadedRom, Nat.add_sub_cancel_left, if_neg hhigh, if_neg hlow, if_pos hlt,
      hk, Option.getD_some]
  · intro a hlow hhigh hout
    by_cases hrom : 0x8000 ≤ a.toNat
    · rw [State.read_with_loadedRom hrom, if_neg hhigh, if_neg hlow, if_neg (by omega)]
    · exact State.read_with_rom_of_lt (Nat.not_le.mp hrom) s _

/-! ### Reset (R29, R263) -/

/-- Settles O14: reset is one update of four registers, and `PC` is a word read. -/
theorem resetSetsFourRegisters : Obligations.ResetSetsFourRegisters := by
  unfold Obligations.ResetSetsFourRegisters
  intro s
  exact ⟨rfl, rfl, rfl, toNat_wordOf _ _, rfl, fun _ => rfl⟩

/-! ### The state right after creation and reset -/

theorem Creation.wf_zero : Creation.zero.wf := ⟨Memory.wf_nil _, Memory.wf_nil _, by decide⟩

/-- Settles O15: the vector of an empty ROM is 0x0000, and each other field is the parameter's zero. -/
theorem resetStateIsCreationThenReset : Obligations.ResetStateIsCreationThenReset := by
  unfold Obligations.ResetStateIsCreationThenReset
  exact ⟨by decide, Creation.wf_zero⟩

/-- Settles O13: a legal creation is sound, and reset keeps it so. -/
theorem resetStateIsSound : Obligations.ResetStateIsSound := by
  unfold Obligations.ResetStateIsSound
  obtain ⟨heq, hzero⟩ := resetStateIsCreationThenReset
  rw [heq]
  exact State.wf_hostReset (State.wf_create hzero)

end Sys2Proof.Machine
end

section
/-! PROOFS. Interrupt-disable and decimal are inert (R240, R277): no operation but PHP's push reads either bit, so two
runs that differ in one of them keep differing in nothing else. -/

namespace Sys2Proof.Machine

open Claims

/-! ### What does not see `P` -/

theorem State.writePictureRegister_with_p (s : State) (q : Byte) (r : Nat) (v : Byte) :
    State.writePictureRegister { s with p := q } r v = { s.writePictureRegister r v with p := q } := by
  unfold State.writePictureRegister
  split
  · rfl
  · split
    · unfold State.writeAddressLatch
      cases s.latchExpectHi <;> rfl
    · rfl

theorem State.write_with_p (s : State) (q : Byte) (a : Word) (v : Byte) :
    State.write { s with p := q } a v = { s.write a v with p := q } := by
  unfold State.write
  cases busDecode a with
  | ppu r => exact s.writePictureRegister_with_p q r v
  | _ => rfl

theorem State.push_with_p (s : State) (q v : Byte) : State.push { s with p := q } v = { s.push v with p := q } := by
  rw [State.push_eq, State.push_eq]

theorem State.pushWord_with_p (s : State) (q : Byte) (w : Word) :
    State.pushWord { s with p := q } w = { s.pushWord w with p := q } := by
  rw [State.pushWord_eq, State.pushWord_eq]

theorem Operand.addr_with_p (o : Operand) (s : State) (q : Byte) : o.addr { s with p := q } = o.addr s := by
  cases o <;> rfl

theorem Operand.value_with_p (o : Operand) (s : State) (q : Byte) : o.value { s with p := q } = o.value s := by
  cases o <;> rfl

/-! ### What each status function hands on -/

section
variable {k : Nat} {p q : Byte}

theorem flag_eq_of_onlyBits (h : OnlyBits [k] p q) {j : Nat} (hj : j ≠ k) : flag q j = flag p j :=
  h j (by simpa using hj)

/-- A status function whose bits each come from the same bit of its argument, or from elsewhere, hands on a difference
in one bit. -/
theorem onlyBits_of_flag_congr {f : Byte → Byte} (hf : ∀ j, flag q j = flag p j → flag (f q) j = flag (f p) j)
    (h : OnlyBits [k] p q) : OnlyBits [k] (f p) (f q) :=
  fun j hj => hf j (h j hj)

theorem onlyBits_setFlag_setFlag (h : OnlyBits [k] p q) {j : Nat} (hj : j < 8) (b : Bool) :
    OnlyBits [k] (setFlag p j b) (setFlag q j b) :=
  onlyBits_of_flag_congr (f := (setFlag · j b)) (fun m hm => by simp only [flag_setFlag _ j m b hj, hm]) h

theorem onlyBits_setZN_setZN (h : OnlyBits [k] p q) (r : Byte) : OnlyBits [k] (setZN p r) (setZN q r) :=
  onlyBits_of_flag_congr (f := (setZN · r)) (fun m hm => by simp only [flag_setZN, hm]) h

theorem onlyBits_compareStatus_compareStatus (h : OnlyBits [k] p q) (reg m : Byte) :
    OnlyBits [k] (compareStatus reg m p) (compareStatus reg m q) :=
  onlyBits_of_flag_congr (fun j hj => by simp only [flag_compareStatus, hj]) h

theorem onlyBits_bitStatus_bitStatus (h : OnlyBits [k] p q) (a m : Byte) :
    OnlyBits [k] (bitStatus a m p) (bitStatus a m q) :=
  onlyBits_of_flag_congr (fun j hj => by simp only [flag_bitStatus, hj]) h

theorem onlyBits_pulledStatus_pulledStatus (h : OnlyBits [k] p q) (pulled : Byte) :
    OnlyBits [k] (pulledStatus pulled p) (pulledStatus pulled q) :=
  onlyBits_of_flag_congr (fun j hj => by simp only [flag_pulledStatus, hj]) h

end

/-- The byte function gives the same byte from statuses that differ in bit `k` alone, and hands that difference on. -/
def AluInert (k : Nat) (f : Byte → AluOut) : Prop :=
  ∀ p q, OnlyBits [k] p q → (f q).value = (f p).value ∧ OnlyBits [k] (f p).status (f q).status

section
variable {k : Nat}

theorem aluInert_znOut (r : Byte) : AluInert k (znOut · r) := fun _ _ h => ⟨rfl, onlyBits_setZN_setZN h r⟩

theorem aluInert_shiftOut (r : Byte) (c : Bool) : AluInert k (shiftOut · r c) :=
  fun _ _ h => ⟨rfl, onlyBits_setZN_setZN (onlyBits_setFlag_setFlag h (by decide) c) r⟩

theorem aluInert_rolCore (hk : bitC ≠ k) (v : Byte) : AluInert k (rolCore v) := by
  intro p q h
  simp only [rolCore, flag_eq_of_onlyBits h hk]
  exact aluInert_shiftOut _ _ p q h

theorem aluInert_rorCore (hk : bitC ≠ k) (v : Byte) : AluInert k (rorCore v) := by
  intro p q h
  simp only [rorCore, flag_eq_of_onlyBits h hk]
  exact aluInert_shiftOut _ _ p q h

theorem aluInert_adcCore (hk : bitC ≠ k) (a m : Byte) : AluInert k (adcCore a m) := by
  intro p q h
  simp only [adcCore, flag_eq_of_onlyBits h hk, true_and]
  apply onlyBits_setZN_setZN
  exact onlyBits_setFlag_setFlag (onlyBits_setFlag_setFlag h (by decide) _) (by decide) _

end

/-! ### The shared operations in two runs -/

/-- Two results are next states that differ in nothing but bit `k` of `P`. -/
def DifferInBit (k : Nat) (r r' : Result) : Prop :=
  ∃ t q, r = .next t ∧ r' = .next { t with p := q } ∧ OnlyBits [k] t.p q

section
variable {k : Nat} {s : State} {q : Byte}

theorem store_differInBit (h : OnlyBits [k] s.p q) (o : Operand) (v : Byte) :
    DifferInBit k (store o v s) (store o v { s with p := q }) := by
  rw [store, store, o.addr_with_p s q, s.write_with_p q]
  exact ⟨_, q, rfl, rfl, (s.write_p _ _).symm ▸ h⟩

theorem push_differInBit (h : OnlyBits [k] s.p q) (n : Word) (v : Byte) :
    DifferInBit k (finish n (s.push v)) (finish n (State.push { s with p := q } v)) := by
  rw [s.push_with_p q]
  exact ⟨_, q, rfl, rfl, (s.push_p _).symm ▸ h⟩

theorem pushWord_differInBit (h : OnlyBits [k] s.p q) (target w : Word) :
    DifferInBit k (transferTo target (s.pushWord w)) (transferTo target (State.pushWord { s with p := q } w)) := by
  rw [s.pushWord_with_p q, s.pushWord_keeps w]
  exact ⟨_, q, rfl, rfl, h⟩

theorem modify_differInBit (h : OnlyBits [k] s.p q) {f : Byte → Byte → AluOut} (o : Operand)
    (hf : ∀ v, AluInert k (f v)) : DifferInBit k (modify f o s) (modify f o { s with p := q }) := by
  obtain ⟨hvalue, hstatus⟩ := hf (o.value s) s.p q h
  simp only [modify, o.value_with_p s q, o.addr_with_p s q, s.write_with_p q, hvalue]
  exact ⟨_, _, rfl, rfl, hstatus⟩

theorem accumulate_differInBit (h : OnlyBits [k] s.p q) {f : Byte → Byte → Byte → AluOut} (o : Operand)
    (hf : ∀ a m, AluInert k (f a m)) : DifferInBit k (accumulate f o s) (accumulate f o { s with p := q }) := by
  obtain ⟨hvalue, hstatus⟩ := hf s.a (o.value s) s.p q h
  simp only [accumulate, o.value_with_p s q, hvalue]
  exact ⟨_, _, rfl, rfl, hstatus⟩

theorem shiftA_differInBit (h : OnlyBits [k] s.p q) {f : Byte → Byte → AluOut} (hf : ∀ v, AluInert k (f v)) :
    DifferInBit k (shiftA f s) (shiftA f { s with p := q }) := by
  obtain ⟨hvalue, hstatus⟩ := hf s.a s.p q h
  simp only [shiftA, hvalue]
  exact ⟨_, _, rfl, rfl, hstatus⟩

theorem branch_differInBit (h : OnlyBits [k] s.p q) {taken taken' : Bool} (heq : taken' = taken) (rel8 : Byte) :
    DifferInBit k (branch taken rel8 s) (branch taken' rel8 { s with p := q }) := by
  rw [heq, branch_eq, branch_eq]
  exact ⟨_, q, rfl, rfl, h⟩

end

/-- Every instruction but PHP, in two runs that differ in interrupt-disable or in decimal: neither bit is the carry or
the condition of a branch. -/
theorem exec_differInBit {i : Instr} {k : Nat} {s : State} {q : Byte} (hi : i ≠ .php) (hk : k = 2 ∨ k = 3)
    (h : OnlyBits [k] s.p q) : DifferInBit k (exec i s) (exec i { s with p := q }) := by
  have hne {j : Nat} (hj : j ∉ [2, 3]) : j ≠ k := by
    rintro rfl
    simp [hk] at hj
  have hcarry : bitC ≠ k := hne (by decide)
  cases i
  case php => contradiction
  case staZp | staZpx | staAbs | staAbx | staAby | staIzx | staIzy | stxZp | stxZpy | stxAbs | styZp | styZpx
    | styAbs =>
    exact store_differInBit h _ _
  case pha =>
    exact push_differInBit h _ _
  case jsrAbs =>
    exact pushWord_differInBit h _ _
  case incZp | incZpx | incAbs | incAbx | decZp | decZpx | decAbs | decAbx =>
    exact modify_differInBit h _ fun _ => aluInert_znOut _
  case aslZp | aslZpx | aslAbs | aslAbx | lsrZp | lsrZpx | lsrAbs | lsrAbx =>
    exact modify_differInBit h _ fun _ => aluInert_shiftOut _ _
  case rolZp | rolZpx | rolAbs | rolAbx =>
    exact modify_differInBit h _ (aluInert_rolCore hcarry)
  case rorZp | rorZpx | rorAbs | rorAbx =>
    exact modify_differInBit h _ (aluInert_rorCore hcarry)
  case aslAcc | lsrAcc =>
    exact shiftA_differInBit h fun _ => aluInert_shiftOut _ _
  case rolAcc =>
    exact shiftA_differInBit h (aluInert_rolCore hcarry)
  case rorAcc =>
    exact shiftA_differInBit h (aluInert_rorCore hcarry)
  case adcImm | adcZp | adcZpx | adcAbs | adcAbx | adcAby | adcIzx | adcIzy =>
    exact accumulate_differInBit h _ (aluInert_adcCore hcarry)
  case sbcImm | sbcZp | sbcZpx | sbcAbs | sbcAbx | sbcAby | sbcIzx | sbcIzy =>
    exact accumulate_differInBit h _ fun a m => aluInert_adcCore hcarry a (m ^^^ 0xFF#8)
  case bccRel | bneRel | bplRel | bvcRel =>
    exact branch_differInBit h (congrArg not (flag_eq_of_onlyBits h (hne (by decide)))) _
  case bcsRel | beqRel | bmiRel | bvsRel =>
    exact branch_differInBit h (flag_eq_of_onlyBits h (hne (by decide))) _
  case ldaImm | ldaZp | ldaZpx | ldaAbs | ldaAbx | ldaAby | ldaIzx | ldaIzy | ldxImm | ldxZp | ldxZpy | ldxAbs | ldxAby
    | ldyImm | ldyZp | ldyZpx | ldyAbs | ldyAbx | txa | tya | tax | tsx | inx | dex | tay | iny | dey | pla
    | andImm | andZp | andZpx | andAbs | andAbx | andAby | andIzx | andIzy | oraImm | oraZp | oraZpx | oraAbs
    | oraAbx | oraAby | oraIzx | oraIzy | eorImm | eorZp | eorZpx | eorAbs | eorAbx | eorAby | eorIzx | eorIzy =>
    exact ⟨_, _, rfl, rfl, onlyBits_setZN_setZN h _⟩
  case cmpImm | cmpZp | cmpZpx | cmpAbs | cmpAbx | cmpAby | cmpIzx | cmpIzy | cpxImm | cpxZp | cpxAbs | cpyImm
    | cpyZp | cpyAbs =>
    exact ⟨_, _, rfl, rfl, onlyBits_compareStatus_compareStatus h _ _⟩
  case bitZp | bitAbs =>
    exact ⟨_, _, rfl, rfl, onlyBits_bitStatus_bitStatus h _ _⟩
  case clc | cld | cli | clv | sec | sed | sei =>
    exact ⟨_, _, rfl, rfl, onlyBits_setFlag_setFlag h (by decide) _⟩
  case plp | rti =>
    exact ⟨_, _, rfl, rfl, onlyBits_pulledStatus_pulledStatus h _⟩
  case txs | nop | jmpAbs | jmpInd | rts | brk =>
    exact ⟨_, q, rfl, rfl, h⟩

/-- Settles O18: the two results differ in that bit alone, and the first is the given state. -/
theorem interruptAndDecimalFlagsAreInert : Obligations.InterruptAndDecimalFlagsAreInert := by
  unfold Obligations.InterruptAndDecimalFlagsAreInert
  intro i k s t q hi hk hq hexec
  obtain ⟨t', q', ht, hu, hq'⟩ := exec_differInBit hi hk hq
  cases ht.symm.trans hexec
  exact ⟨_, hu, rfl, hq'⟩

end Sys2Proof.Machine
end
